-- ==== Sys2Proof/Word.lean ====
section
/-! DEFINITION. The word types of the model: 64-bit System and general registers, 32-bit AArch32 values and
instruction words, bytes, and the register numbers of the two Execution states (10_state.md R34). -/

namespace Sys2Proof

/-- A 64-bit register, address or doubleword. -/
abbrev Word := BitVec 64

/-- A 32-bit AArch32 register value or an instruction word. -/
abbrev Word32 := BitVec 32

/-- One byte of memory. -/
abbrev Byte := BitVec 8

/-- The 5-bit Rt field of an A64 access; 31 names the zero register (30_encoding.md R63). -/
abbrev XReg := BitVec 5

/-- A 4-bit AArch32 register number (40_access.md R84). -/
abbrev RReg := BitVec 4

/-- The condition field of an A32 instruction (30_encoding.md R65). -/
abbrev Cond := BitVec 4

/-- Zero extension of a 32-bit value (the only extension the spec uses, 00_scope.md section 5). -/
def zext64 (v : Word32) : Word := v.setWidth 64

/-- Bits [31:0] of a 64-bit value. -/
def low32 (v : Word) : Word32 := v.setWidth 32

/-- `v` with bits [31:0] replaced: the write of a 32-bit view of a 64-bit register. -/
def withLow32 (old : Word) (v : Word32) : Word := old.extractLsb' 32 32 ++ v

end Sys2Proof
end

