-- ==== Sys2Proof/Config.lean ====
section
/-! DEFINITION. The implementation parameters of 00_scope.md section 4, and the free value that stands for every
`draw(S)` of the spec (92_eei_decisions.md D6). The parameters are a field of State that no step changes, so that a
statement about every state is a statement about every implementation (notes/assumptions 1, 2). -/

namespace Sys2Proof

/-- The five-field selector of an AArch64 System register (30_encoding.md R60). -/
structure SysEnc where
  op0 : BitVec 2
  op1 : BitVec 3
  crn : BitVec 4
  crm : BitVec 4
  op2 : BitVec 3
  deriving DecidableEq, Repr

/-- The selector of an AArch32 System register reached by MRC and MCR (30_encoding.md R64). -/
structure CpEnc where
  coproc : BitVec 4
  opc1 : BitVec 3
  crn : BitVec 4
  crm : BitVec 4
  opc2 : BitVec 3
  deriving DecidableEq, Repr

/-- The selector of an AArch32 System register reached by MRRC and MCRR (30_encoding.md R64). -/
structure Cp64Enc where
  coproc : BitVec 4
  opc1 : BitVec 4
  crm : BitVec 4
  deriving DecidableEq, Repr

/-- What CV and COND report for a trapped T32 instruction (60_exceptions.md R231). -/
inductive T32CvPolicy where
  /-- CV is 0 and COND is UNKNOWN. -/
  | cv0
  /-- CV is 1 and COND is the condition that applied. -/
  | cv1
  deriving DecidableEq, Repr

/-- The parameters of 00_scope.md section 4. -/
structure Config where
  haveEL2 : Bool
  haveEL3 : Bool
  el2A32Capable : Bool
  el3A32Capable : Bool
  havePMUv3 : Bool
  havePMUv3p1 : Bool
  havePMUv3p4 : Bool
  havePMUv3p5 : Bool
  haveMTPMU : Bool
  haveFGT : Bool
  haveTraceFilt : Bool
  haveSPE : Bool
  haveDoubleLock : Bool
  haveDebugv8p2 : Bool
  haveNV : Bool
  haveNV2 : Bool
  haveVHE : Bool
  haveSecEL2 : Bool
  /-- PMCR_EL0.N, the number of implemented event counters, 0 to 31. -/
  pmcrN : BitVec 5
  tdosaTrapsOsdlr : Bool
  mdcrEl3TdosaTrapsOsdlr : Bool
  /-- The IMPLEMENTATION DEFINED AArch64 registers that TDOSA traps (41_debug_traps.md R103). -/
  tdosaExtra : List SysEnc
  /-- The IMPLEMENTATION DEFINED AArch32 registers that TDOSA traps (41_debug_traps.md R103). -/
  tdosaExtra32 : List CpEnc
  mtpmeAffinityDisable : Bool
  hlpRazwiWhenTopA32 : Bool
  t32CvPolicy : T32CvPolicy
  trapFailedCondition : Bool
  resetIntoAArch64 : Bool
  resetPc : Word
  res0BitsStored : Bool
  /-- The Effective value of SCR_EL3.NS where EL3 is not implemented (43_spe_trace.md R203; notes/assumptions 22). -/
  noEl3NonSecure : Bool
  /-- Implemented breakpoints, 1 to 16 (41_debug_traps.md R119; notes/assumptions 32). -/
  breakpoints : Nat
  /-- Implemented watchpoints, 1 to 16 (41_debug_traps.md R119; notes/assumptions 32). -/
  watchpoints : Nat
  deriving DecidableEq, Repr

/-- The constraints between parameters that the source states (00_scope.md R5 and section 4). -/
def Config.legal (c : Config) : Bool :=
  (!c.haveMTPMU || c.havePMUv3) && (!c.havePMUv3p5 || c.havePMUv3p4) && (!c.havePMUv3p4 || c.havePMUv3p1)
    && (!c.havePMUv3p1 || c.havePMUv3) && (!c.haveNV2 || c.haveNV) && (!c.haveNV || c.haveEL2)
    && decide (c.breakpoints ≤ 16) && decide (c.watchpoints ≤ 16)

/-- Configuration K1 of 95_test_vectors.md Part 2, which the model resets into (notes/assumptions 1, DESIGN CHOICE). -/
def Config.k1 : Config where
  haveEL2 := true
  haveEL3 := false
  el2A32Capable := true
  el3A32Capable := true
  havePMUv3 := true
  havePMUv3p1 := true
  havePMUv3p4 := true
  havePMUv3p5 := true
  haveMTPMU := false
  haveFGT := true
  haveTraceFilt := true
  haveSPE := true
  haveDoubleLock := true
  haveDebugv8p2 := true
  haveNV := false
  haveNV2 := false
  haveVHE := false
  haveSecEL2 := false
  pmcrN := 6
  tdosaTrapsOsdlr := false
  mdcrEl3TdosaTrapsOsdlr := false
  tdosaExtra := []
  tdosaExtra32 := []
  mtpmeAffinityDisable := false
  hlpRazwiWhenTopA32 := false
  t32CvPolicy := .cv0
  trapFailedCondition := false
  resetIntoAArch64 := true
  resetPc := 0
  res0BitsStored := false
  noEl3NonSecure := true
  breakpoints := 16
  watchpoints := 16

/-- What a use of the HPMN partition point is for: the spec makes one draw per use (92_eei_decisions.md D10). -/
inductive HpmnUse where
  | rangeTest | accessLimit | bitMask | readN | resetCounters | enable | prohibit | overflow
  deriving DecidableEq, Repr

/-- The places of the model that draw a value in one step. Each place has its own draw, so no two are tied. -/
inductive DrawSite where
  /-- The HPMN bits of a direct read (40_access.md R83). -/
  | hpmnRead
  /-- The partition point, by use and by counter (42_pmu_controls.md R172). -/
  | hpmn (use : HpmnUse) (n : Nat)
  /-- The CONSTRAINED UNPREDICTABLE choice of a counter access (42_pmu_controls.md R167). -/
  | counterChoice
  /-- The UNKNOWN value that PMSELR_EL0.SEL is taken to have (42_pmu_controls.md R167). -/
  | counterSel
  /-- COND of an AArch32 trap (60_exceptions.md R231). -/
  | cond
  /-- The AArch64 view of Rt, or of Rn (60_exceptions.md R232, R233). -/
  | rtView
  /-- The AArch64 view of Rt2 (60_exceptions.md R233). -/
  | rt2View
  /-- The value of R15 as a source (notes/assumptions 10). -/
  | r15
  /-- The same for the second register of MCRR (notes/assumptions 10). -/
  | r15Second
  /-- Which acting bits of PMSWINC name a counter that is set to count it (notes/assumptions 18). -/
  | softwareIncrement
  /-- A value that a debug register whose behaviour is out of scope reads as, or takes (notes/assumptions 15 to 17). -/
  | debugRegister (k : Nat)
  /-- The pc after an exception to a level using AArch32 that the spec does not detail (notes/assumptions 24). -/
  | entryPc
  /-- PSTATE fields after such an exception (notes/assumptions 24). -/
  | entryPstate
  /-- AM and Offset of the syndrome of a literal LDC (60_exceptions.md R232; 93_implementation_defined.md I18). -/
  | literalForm (k : Nat)
  /-- FAR_EL2 and HPFAR_EL2 after a trap (60_exceptions.md R241). -/
  | faultAddress (k : Nat)
  /-- ESR, ELR and SPSR after an exception return (60_exceptions.md R242). -/
  | afterReturn (k : Nat)
  /-- The owning regime where E2PB is 0b01 (43_spe_trace.md R206). -/
  | regime
  /-- The overflow flag of the cycle counter (notes/assumptions 46). -/
  | cycleOverflow
  /-- An UNKNOWN reset value (70_reset_and_hazards.md R262, R268). -/
  | reset (k : Nat)
  deriving DecidableEq, Repr

/-- THE FREE VALUE (92_eei_decisions.md D6; notes/assumptions 2): the value drawn at a site in the step that the
counter numbers. It has no body, so nothing can be proved about the value it gives. -/
opaque Config.freeValue : Nat → DrawSite → Word

end Sys2Proof
end

