-- ==== Sys2Proof/Syntax.lean ====
section
/-! DEFINITION. The instructions: one constructor per row of spec/opcode_table.json (30_encoding.md section 5). `t` is
Rt, `t2` is Rt2, `n` the number of an indexed register, `cond` the condition field of A32 (30_encoding.md R60 to R66). -/

namespace Sys2Proof

/-- Every instruction of the opcode table. -/
inductive Instr where
  /-- `MRS <Xt>, MDCR_EL2` (R80) -/
  | mrsMdcrEl2 (t : XReg)
  /-- `MSR MDCR_EL2, <Xt>` (R81) -/
  | msrMdcrEl2 (t : XReg)
  /-- `MRS <Xt>, MDCCSR_EL0` (R110) -/
  | mrsMdccsrEl0 (t : XReg)
  /-- `MRS <Xt>, MDCCINT_EL1` (R111) -/
  | mrsMdccintEl1 (t : XReg)
  /-- `MSR MDCCINT_EL1, <Xt>` (R111) -/
  | msrMdccintEl1 (t : XReg)
  /-- `MRS <Xt>, OSDTRRX_EL1` (R112) -/
  | mrsOsdtrrxEl1 (t : XReg)
  /-- `MSR OSDTRRX_EL1, <Xt>` (R112) -/
  | msrOsdtrrxEl1 (t : XReg)
  /-- `MRS <Xt>, OSDTRTX_EL1` (R113) -/
  | mrsOsdtrtxEl1 (t : XReg)
  /-- `MSR OSDTRTX_EL1, <Xt>` (R113) -/
  | msrOsdtrtxEl1 (t : XReg)
  /-- `MRS <Xt>, DBGDTR_EL0` (R114) -/
  | mrsDbgdtrEl0 (t : XReg)
  /-- `MSR DBGDTR_EL0, <Xt>` (R114) -/
  | msrDbgdtrEl0 (t : XReg)
  /-- `MRS <Xt>, DBGDTRRX_EL0` (R115) -/
  | mrsDbgdtrrxEl0 (t : XReg)
  /-- `MSR DBGDTRTX_EL0, <Xt>` (R116) -/
  | msrDbgdtrtxEl0 (t : XReg)
  /-- `MRS <Xt>, MDSCR_EL1` (R117) -/
  | mrsMdscrEl1 (t : XReg)
  /-- `MSR MDSCR_EL1, <Xt>` (R117) -/
  | msrMdscrEl1 (t : XReg)
  /-- `MRS <Xt>, OSECCR_EL1` (R118) -/
  | mrsOseccrEl1 (t : XReg)
  /-- `MSR OSECCR_EL1, <Xt>` (R118) -/
  | msrOseccrEl1 (t : XReg)
  /-- `MRS <Xt>, DBGBVR<n>_EL1` (R119) -/
  | mrsDbgbvrEl1 (n : BitVec 4) (t : XReg)
  /-- `MSR DBGBVR<n>_EL1, <Xt>` (R119) -/
  | msrDbgbvrEl1 (n : BitVec 4) (t : XReg)
  /-- `MRS <Xt>, DBGBCR<n>_EL1` (R120) -/
  | mrsDbgbcrEl1 (n : BitVec 4) (t : XReg)
  /-- `MSR DBGBCR<n>_EL1, <Xt>` (R120) -/
  | msrDbgbcrEl1 (n : BitVec 4) (t : XReg)
  /-- `MRS <Xt>, DBGWVR<n>_EL1` (R121) -/
  | mrsDbgwvrEl1 (n : BitVec 4) (t : XReg)
  /-- `MSR DBGWVR<n>_EL1, <Xt>` (R121) -/
  | msrDbgwvrEl1 (n : BitVec 4) (t : XReg)
  /-- `MRS <Xt>, DBGWCR<n>_EL1` (R122) -/
  | mrsDbgwcrEl1 (n : BitVec 4) (t : XReg)
  /-- `MSR DBGWCR<n>_EL1, <Xt>` (R122) -/
  | msrDbgwcrEl1 (n : BitVec 4) (t : XReg)
  /-- `MRS <Xt>, DBGCLAIMSET_EL1` (R123) -/
  | mrsDbgclaimsetEl1 (t : XReg)
  /-- `MSR DBGCLAIMSET_EL1, <Xt>` (R123) -/
  | msrDbgclaimsetEl1 (t : XReg)
  /-- `MRS <Xt>, DBGCLAIMCLR_EL1` (R124) -/
  | mrsDbgclaimclrEl1 (t : XReg)
  /-- `MSR DBGCLAIMCLR_EL1, <Xt>` (R124) -/
  | msrDbgclaimclrEl1 (t : XReg)
  /-- `MRS <Xt>, DBGAUTHSTATUS_EL1` (R125) -/
  | mrsDbgauthstatusEl1 (t : XReg)
  /-- `MRS <Xt>, MDRAR_EL1` (R126) -/
  | mrsMdrarEl1 (t : XReg)
  /-- `MSR OSLAR_EL1, <Xt>` (R127) -/
  | msrOslarEl1 (t : XReg)
  /-- `MRS <Xt>, OSLSR_EL1` (R128) -/
  | mrsOslsrEl1 (t : XReg)
  /-- `MRS <Xt>, OSDLR_EL1` (R129) -/
  | mrsOsdlrEl1 (t : XReg)
  /-- `MSR OSDLR_EL1, <Xt>` (R129) -/
  | msrOsdlrEl1 (t : XReg)
  /-- `MRS <Xt>, DBGPRCR_EL1` (R130) -/
  | mrsDbgprcrEl1 (t : XReg)
  /-- `MSR DBGPRCR_EL1, <Xt>` (R130) -/
  | msrDbgprcrEl1 (t : XReg)
  /-- `MRS <Xt>, PMCR_EL0` (R152) -/
  | mrsPmcrEl0 (t : XReg)
  /-- `MSR PMCR_EL0, <Xt>` (R152) -/
  | msrPmcrEl0 (t : XReg)
  /-- `MRS <Xt>, PMCNTENSET_EL0` (R153) -/
  | mrsPmcntensetEl0 (t : XReg)
  /-- `MSR PMCNTENSET_EL0, <Xt>` (R153) -/
  | msrPmcntensetEl0 (t : XReg)
  /-- `MRS <Xt>, PMCNTENCLR_EL0` (R154) -/
  | mrsPmcntenclrEl0 (t : XReg)
  /-- `MSR PMCNTENCLR_EL0, <Xt>` (R154) -/
  | msrPmcntenclrEl0 (t : XReg)
  /-- `MRS <Xt>, PMOVSCLR_EL0` (R155) -/
  | mrsPmovsclrEl0 (t : XReg)
  /-- `MSR PMOVSCLR_EL0, <Xt>` (R155) -/
  | msrPmovsclrEl0 (t : XReg)
  /-- `MSR PMSWINC_EL0, <Xt>` (R156) -/
  | msrPmswincEl0 (t : XReg)
  /-- `MRS <Xt>, PMSELR_EL0` (R157) -/
  | mrsPmselrEl0 (t : XReg)
  /-- `MSR PMSELR_EL0, <Xt>` (R157) -/
  | msrPmselrEl0 (t : XReg)
  /-- `MRS <Xt>, PMCEID0_EL0` (R158) -/
  | mrsPmceid0El0 (t : XReg)
  /-- `MRS <Xt>, PMCEID1_EL0` (R158) -/
  | mrsPmceid1El0 (t : XReg)
  /-- `MRS <Xt>, PMCCNTR_EL0` (R159) -/
  | mrsPmccntrEl0 (t : XReg)
  /-- `MSR PMCCNTR_EL0, <Xt>` (R159) -/
  | msrPmccntrEl0 (t : XReg)
  /-- `MRS <Xt>, PMXEVTYPER_EL0` (R160) -/
  | mrsPmxevtyperEl0 (t : XReg)
  /-- `MSR PMXEVTYPER_EL0, <Xt>` (R160) -/
  | msrPmxevtyperEl0 (t : XReg)
  /-- `MRS <Xt>, PMXEVCNTR_EL0` (R161) -/
  | mrsPmxevcntrEl0 (t : XReg)
  /-- `MSR PMXEVCNTR_EL0, <Xt>` (R161) -/
  | msrPmxevcntrEl0 (t : XReg)
  /-- `MRS <Xt>, PMUSERENR_EL0` (R162) -/
  | mrsPmuserenrEl0 (t : XReg)
  /-- `MSR PMUSERENR_EL0, <Xt>` (R162) -/
  | msrPmuserenrEl0 (t : XReg)
  /-- `MRS <Xt>, PMOVSSET_EL0` (R155) -/
  | mrsPmovssetEl0 (t : XReg)
  /-- `MSR PMOVSSET_EL0, <Xt>` (R155) -/
  | msrPmovssetEl0 (t : XReg)
  /-- `MRS <Xt>, PMINTENSET_EL1` (R163) -/
  | mrsPmintensetEl1 (t : XReg)
  /-- `MSR PMINTENSET_EL1, <Xt>` (R163) -/
  | msrPmintensetEl1 (t : XReg)
  /-- `MRS <Xt>, PMINTENCLR_EL1` (R163) -/
  | mrsPmintenclrEl1 (t : XReg)
  /-- `MSR PMINTENCLR_EL1, <Xt>` (R163) -/
  | msrPmintenclrEl1 (t : XReg)
  /-- `MRS <Xt>, PMMIR_EL1` (R164) -/
  | mrsPmmirEl1 (t : XReg)
  /-- `MRS <Xt>, PMCCFILTR_EL0` (R159) -/
  | mrsPmccfiltrEl0 (t : XReg)
  /-- `MSR PMCCFILTR_EL0, <Xt>` (R159) -/
  | msrPmccfiltrEl0 (t : XReg)
  /-- `MRS <Xt>, PMEVCNTR<n>_EL0` (R165) -/
  | mrsPmevcntrEl0 (n : BitVec 5) (t : XReg)
  /-- `MSR PMEVCNTR<n>_EL0, <Xt>` (R165) -/
  | msrPmevcntrEl0 (n : BitVec 5) (t : XReg)
  /-- `MRS <Xt>, PMEVTYPER<n>_EL0` (R166) -/
  | mrsPmevtyperEl0 (n : BitVec 5) (t : XReg)
  /-- `MSR PMEVTYPER<n>_EL0, <Xt>` (R166) -/
  | msrPmevtyperEl0 (n : BitVec 5) (t : XReg)
  /-- `MRS <Xt>, PMSCR_EL1` (R210) -/
  | mrsPmscrEl1 (t : XReg)
  /-- `MSR PMSCR_EL1, <Xt>` (R210) -/
  | msrPmscrEl1 (t : XReg)
  /-- `MRS <Xt>, PMSICR_EL1` (R211) -/
  | mrsPmsicrEl1 (t : XReg)
  /-- `MSR PMSICR_EL1, <Xt>` (R211) -/
  | msrPmsicrEl1 (t : XReg)
  /-- `MRS <Xt>, PMSIRR_EL1` (R212) -/
  | mrsPmsirrEl1 (t : XReg)
  /-- `MSR PMSIRR_EL1, <Xt>` (R212) -/
  | msrPmsirrEl1 (t : XReg)
  /-- `MRS <Xt>, PMSFCR_EL1` (R213) -/
  | mrsPmsfcrEl1 (t : XReg)
  /-- `MSR PMSFCR_EL1, <Xt>` (R213) -/
  | msrPmsfcrEl1 (t : XReg)
  /-- `MRS <Xt>, PMSEVFR_EL1` (R214) -/
  | mrsPmsevfrEl1 (t : XReg)
  /-- `MSR PMSEVFR_EL1, <Xt>` (R214) -/
  | msrPmsevfrEl1 (t : XReg)
  /-- `MRS <Xt>, PMSLATFR_EL1` (R215) -/
  | mrsPmslatfrEl1 (t : XReg)
  /-- `MSR PMSLATFR_EL1, <Xt>` (R215) -/
  | msrPmslatfrEl1 (t : XReg)
  /-- `MRS <Xt>, PMSIDR_EL1` (R216) -/
  | mrsPmsidrEl1 (t : XReg)
  /-- `MRS <Xt>, PMBLIMITR_EL1` (R217) -/
  | mrsPmblimitrEl1 (t : XReg)
  /-- `MSR PMBLIMITR_EL1, <Xt>` (R217) -/
  | msrPmblimitrEl1 (t : XReg)
  /-- `MRS <Xt>, PMBPTR_EL1` (R218) -/
  | mrsPmbptrEl1 (t : XReg)
  /-- `MSR PMBPTR_EL1, <Xt>` (R218) -/
  | msrPmbptrEl1 (t : XReg)
  /-- `MRS <Xt>, PMBSR_EL1` (R219) -/
  | mrsPmbsrEl1 (t : XReg)
  /-- `MSR PMBSR_EL1, <Xt>` (R219) -/
  | msrPmbsrEl1 (t : XReg)
  /-- `MRS <Xt>, PMBIDR_EL1` (R207) -/
  | mrsPmbidrEl1 (t : XReg)
  /-- `MRS <Xt>, TRFCR_EL1` (R208) -/
  | mrsTrfcrEl1 (t : XReg)
  /-- `MSR TRFCR_EL1, <Xt>` (R208) -/
  | msrTrfcrEl1 (t : XReg)
  /-- `MRC p15, 4, <Rt>, c1, c1, 1` (R84) -/
  | mrcHdcr (cond : Cond) (t : RReg)
  /-- `MCR p15, 4, <Rt>, c1, c1, 1` (R85) -/
  | mcrHdcr (cond : Cond) (t : RReg)
  /-- `MRC p14, 0, <Rt>, c0, c0, 0` (R137) -/
  | mrcDbgdidr (cond : Cond) (t : RReg)
  /-- `MRC p14, 0, <Rt>, c0, c1, 0` (R137) -/
  | mrcDbgdscrint (cond : Cond) (t : RReg)
  /-- `MRC p14, 0, <Rt>, c0, c5, 0` (R137) -/
  | mrcDbgdtrrxint (cond : Cond) (t : RReg)
  /-- `MCR p14, 0, <Rt>, c0, c5, 0` (R137) -/
  | mcrDbgdtrtxint (cond : Cond) (t : RReg)
  /-- `MRC p14, 0, <Rt>, c0, c2, 0` (R133) -/
  | mrcDbgdccint (cond : Cond) (t : RReg)
  /-- `MCR p14, 0, <Rt>, c0, c2, 0` (R133) -/
  | mcrDbgdccint (cond : Cond) (t : RReg)
  /-- `MRC p14, 0, <Rt>, c0, c0, 2` (R133) -/
  | mrcDbgdtrrxext (cond : Cond) (t : RReg)
  /-- `MCR p14, 0, <Rt>, c0, c0, 2` (R133) -/
  | mcrDbgdtrrxext (cond : Cond) (t : RReg)
  /-- `MRC p14, 0, <Rt>, c0, c3, 2` (R133) -/
  | mrcDbgdtrtxext (cond : Cond) (t : RReg)
  /-- `MCR p14, 0, <Rt>, c0, c3, 2` (R133) -/
  | mcrDbgdtrtxext (cond : Cond) (t : RReg)
  /-- `MRC p14, 0, <Rt>, c0, c2, 2` (R132) -/
  | mrcDbgdscrext (cond : Cond) (t : RReg)
  /-- `MCR p14, 0, <Rt>, c0, c2, 2` (R132) -/
  | mcrDbgdscrext (cond : Cond) (t : RReg)
  /-- `MRC p14, 0, <Rt>, c0, c6, 0` (R132) -/
  | mrcDbgwfar (cond : Cond) (t : RReg)
  /-- `MCR p14, 0, <Rt>, c0, c6, 0` (R132) -/
  | mcrDbgwfar (cond : Cond) (t : RReg)
  /-- `MRC p14, 0, <Rt>, c0, c7, 0` (R132) -/
  | mrcDbgvcr (cond : Cond) (t : RReg)
  /-- `MCR p14, 0, <Rt>, c0, c7, 0` (R132) -/
  | mcrDbgvcr (cond : Cond) (t : RReg)
  /-- `MRC p14, 0, <Rt>, c0, c6, 2` (R132) -/
  | mrcDbgoseccr (cond : Cond) (t : RReg)
  /-- `MCR p14, 0, <Rt>, c0, c6, 2` (R132) -/
  | mcrDbgoseccr (cond : Cond) (t : RReg)
  /-- `MRC p14, 0, <Rt>, c0, c<n>, 4` (R132) -/
  | mrcDbgbvr (cond : Cond) (n : BitVec 4) (t : RReg)
  /-- `MCR p14, 0, <Rt>, c0, c<n>, 4` (R132) -/
  | mcrDbgbvr (cond : Cond) (n : BitVec 4) (t : RReg)
  /-- `MRC p14, 0, <Rt>, c0, c<n>, 5` (R132) -/
  | mrcDbgbcr (cond : Cond) (n : BitVec 4) (t : RReg)
  /-- `MCR p14, 0, <Rt>, c0, c<n>, 5` (R132) -/
  | mcrDbgbcr (cond : Cond) (n : BitVec 4) (t : RReg)
  /-- `MRC p14, 0, <Rt>, c0, c<n>, 6` (R132) -/
  | mrcDbgwvr (cond : Cond) (n : BitVec 4) (t : RReg)
  /-- `MCR p14, 0, <Rt>, c0, c<n>, 6` (R132) -/
  | mcrDbgwvr (cond : Cond) (n : BitVec 4) (t : RReg)
  /-- `MRC p14, 0, <Rt>, c0, c<n>, 7` (R132) -/
  | mrcDbgwcr (cond : Cond) (n : BitVec 4) (t : RReg)
  /-- `MCR p14, 0, <Rt>, c0, c<n>, 7` (R132) -/
  | mcrDbgwcr (cond : Cond) (n : BitVec 4) (t : RReg)
  /-- `MRC p14, 0, <Rt>, c1, c<n>, 1` (R132) -/
  | mrcDbgbxvr (cond : Cond) (n : BitVec 4) (t : RReg)
  /-- `MCR p14, 0, <Rt>, c1, c<n>, 1` (R132) -/
  | mcrDbgbxvr (cond : Cond) (n : BitVec 4) (t : RReg)
  /-- `MRC p14, 0, <Rt>, c7, c8, 6` (R132) -/
  | mrcDbgclaimset (cond : Cond) (t : RReg)
  /-- `MCR p14, 0, <Rt>, c7, c8, 6` (R132) -/
  | mcrDbgclaimset (cond : Cond) (t : RReg)
  /-- `MRC p14, 0, <Rt>, c7, c9, 6` (R132) -/
  | mrcDbgclaimclr (cond : Cond) (t : RReg)
  /-- `MCR p14, 0, <Rt>, c7, c9, 6` (R132) -/
  | mcrDbgclaimclr (cond : Cond) (t : RReg)
  /-- `MRC p14, 0, <Rt>, c7, c14, 6` (R132) -/
  | mrcDbgauthstatus (cond : Cond) (t : RReg)
  /-- `MRC p14, 0, <Rt>, c7, c2, 7` (R132) -/
  | mrcDbgdevid (cond : Cond) (t : RReg)
  /-- `MRC p14, 0, <Rt>, c7, c1, 7` (R132) -/
  | mrcDbgdevid1 (cond : Cond) (t : RReg)
  /-- `MRC p14, 0, <Rt>, c7, c0, 7` (R132) -/
  | mrcDbgdevid2 (cond : Cond) (t : RReg)
  /-- `MRC p14, 0, <Rt>, c1, c0, 0` (R134) -/
  | mrcDbgdrar (cond : Cond) (t : RReg)
  /-- `MRC p14, 0, <Rt>, c2, c0, 0` (R134) -/
  | mrcDbgdsar (cond : Cond) (t : RReg)
  /-- `MCR p14, 0, <Rt>, c1, c0, 4` (R135) -/
  | mcrDbgoslar (cond : Cond) (t : RReg)
  /-- `MRC p14, 0, <Rt>, c1, c1, 4` (R135) -/
  | mrcDbgoslsr (cond : Cond) (t : RReg)
  /-- `MRC p14, 0, <Rt>, c1, c3, 4` (R135) -/
  | mrcDbgosdlr (cond : Cond) (t : RReg)
  /-- `MCR p14, 0, <Rt>, c1, c3, 4` (R135) -/
  | mcrDbgosdlr (cond : Cond) (t : RReg)
  /-- `MRC p14, 0, <Rt>, c1, c4, 4` (R135) -/
  | mrcDbgprcr (cond : Cond) (t : RReg)
  /-- `MCR p14, 0, <Rt>, c1, c4, 4` (R135) -/
  | mcrDbgprcr (cond : Cond) (t : RReg)
  /-- `MRC p15, 0, <Rt>, c1, c2, 1` (R209) -/
  | mrcTrfcr (cond : Cond) (t : RReg)
  /-- `MCR p15, 0, <Rt>, c1, c2, 1` (R209) -/
  | mcrTrfcr (cond : Cond) (t : RReg)
  /-- `MRC p15, 0, <Rt>, c9, c12, 0` (R168) -/
  | mrcPmcr (cond : Cond) (t : RReg)
  /-- `MCR p15, 0, <Rt>, c9, c12, 0` (R168) -/
  | mcrPmcr (cond : Cond) (t : RReg)
  /-- `MRC p15, 0, <Rt>, c9, c12, 1` (R168) -/
  | mrcPmcntenset (cond : Cond) (t : RReg)
  /-- `MCR p15, 0, <Rt>, c9, c12, 1` (R168) -/
  | mcrPmcntenset (cond : Cond) (t : RReg)
  /-- `MRC p15, 0, <Rt>, c9, c12, 2` (R168) -/
  | mrcPmcntenclr (cond : Cond) (t : RReg)
  /-- `MCR p15, 0, <Rt>, c9, c12, 2` (R168) -/
  | mcrPmcntenclr (cond : Cond) (t : RReg)
  /-- `MRC p15, 0, <Rt>, c9, c12, 3` (R168) -/
  | mrcPmovsr (cond : Cond) (t : RReg)
  /-- `MCR p15, 0, <Rt>, c9, c12, 3` (R168) -/
  | mcrPmovsr (cond : Cond) (t : RReg)
  /-- `MCR p15, 0, <Rt>, c9, c12, 4` (R168) -/
  | mcrPmswinc (cond : Cond) (t : RReg)
  /-- `MRC p15, 0, <Rt>, c9, c12, 5` (R168) -/
  | mrcPmselr (cond : Cond) (t : RReg)
  /-- `MCR p15, 0, <Rt>, c9, c12, 5` (R168) -/
  | mcrPmselr (cond : Cond) (t : RReg)
  /-- `MRC p15, 0, <Rt>, c9, c12, 6` (R168) -/
  | mrcPmceid0 (cond : Cond) (t : RReg)
  /-- `MRC p15, 0, <Rt>, c9, c12, 7` (R168) -/
  | mrcPmceid1 (cond : Cond) (t : RReg)
  /-- `MRC p15, 0, <Rt>, c9, c14, 4` (R168) -/
  | mrcPmceid2 (cond : Cond) (t : RReg)
  /-- `MRC p15, 0, <Rt>, c9, c14, 5` (R168) -/
  | mrcPmceid3 (cond : Cond) (t : RReg)
  /-- `MRC p15, 0, <Rt>, c9, c13, 0` (R168) -/
  | mrcPmccntr (cond : Cond) (t : RReg)
  /-- `MCR p15, 0, <Rt>, c9, c13, 0` (R168) -/
  | mcrPmccntr (cond : Cond) (t : RReg)
  /-- `MRC p15, 0, <Rt>, c9, c13, 1` (R168) -/
  | mrcPmxevtyper (cond : Cond) (t : RReg)
  /-- `MCR p15, 0, <Rt>, c9, c13, 1` (R168) -/
  | mcrPmxevtyper (cond : Cond) (t : RReg)
  /-- `MRC p15, 0, <Rt>, c9, c13, 2` (R168) -/
  | mrcPmxevcntr (cond : Cond) (t : RReg)
  /-- `MCR p15, 0, <Rt>, c9, c13, 2` (R168) -/
  | mcrPmxevcntr (cond : Cond) (t : RReg)
  /-- `MRC p15, 0, <Rt>, c9, c14, 0` (R168) -/
  | mrcPmuserenr (cond : Cond) (t : RReg)
  /-- `MCR p15, 0, <Rt>, c9, c14, 0` (R168) -/
  | mcrPmuserenr (cond : Cond) (t : RReg)
  /-- `MRC p15, 0, <Rt>, c9, c14, 1` (R168) -/
  | mrcPmintenset (cond : Cond) (t : RReg)
  /-- `MCR p15, 0, <Rt>, c9, c14, 1` (R168) -/
  | mcrPmintenset (cond : Cond) (t : RReg)
  /-- `MRC p15, 0, <Rt>, c9, c14, 2` (R168) -/
  | mrcPmintenclr (cond : Cond) (t : RReg)
  /-- `MCR p15, 0, <Rt>, c9, c14, 2` (R168) -/
  | mcrPmintenclr (cond : Cond) (t : RReg)
  /-- `MRC p15, 0, <Rt>, c9, c14, 3` (R168) -/
  | mrcPmovsset (cond : Cond) (t : RReg)
  /-- `MCR p15, 0, <Rt>, c9, c14, 3` (R168) -/
  | mcrPmovsset (cond : Cond) (t : RReg)
  /-- `MRC p15, 0, <Rt>, c9, c14, 6` (R168) -/
  | mrcPmmir (cond : Cond) (t : RReg)
  /-- `MRC p15, 0, <Rt>, c14, c15, 7` (R168) -/
  | mrcPmccfiltr (cond : Cond) (t : RReg)
  /-- `MCR p15, 0, <Rt>, c14, c15, 7` (R168) -/
  | mcrPmccfiltr (cond : Cond) (t : RReg)
  /-- `MRC p15, 0, <Rt>, c14, c8+n[4:3], n[2:0]` (R168) -/
  | mrcPmevcntr (cond : Cond) (n : BitVec 5) (t : RReg)
  /-- `MCR p15, 0, <Rt>, c14, c8+n[4:3], n[2:0]` (R168) -/
  | mcrPmevcntr (cond : Cond) (n : BitVec 5) (t : RReg)
  /-- `MRC p15, 0, <Rt>, c14, c12+n[4:3], n[2:0]` (R168) -/
  | mrcPmevtyper (cond : Cond) (n : BitVec 5) (t : RReg)
  /-- `MCR p15, 0, <Rt>, c14, c12+n[4:3], n[2:0]` (R168) -/
  | mcrPmevtyper (cond : Cond) (n : BitVec 5) (t : RReg)
  /-- `MRRC p14, 0, <Rt>, <Rt2>, c1` (R134) -/
  | mrrcDbgdrar (cond : Cond) (t t2 : RReg)
  /-- `MRRC p14, 0, <Rt>, <Rt2>, c2` (R134) -/
  | mrrcDbgdsar (cond : Cond) (t t2 : RReg)
  /-- `MRRC p15, 0, <Rt>, <Rt2>, c9` (R168) -/
  | mrrcPmccntr (cond : Cond) (t t2 : RReg)
  /-- `MCRR p15, 0, <Rt>, <Rt2>, c9` (R168) -/
  | mcrrPmccntr (cond : Cond) (t t2 : RReg)
  /-- `LDC p14, c5, [<Rn>...]` (R136) -/
  | ldcDbgdtrtxint (cond : Cond) (p u w : Bool) (rn : RReg) (imm8 : BitVec 8)
  /-- `STC p14, c5, [<Rn>...]` (R136) -/
  | stcDbgdtrrxint (cond : Cond) (p u w : Bool) (rn : RReg) (imm8 : BitVec 8)
  deriving DecidableEq, Repr

end Sys2Proof
end

