-- ==== Sys2Proof/WellFormed.lean ====
section
/-! DEFINITION. Which terms of `Instr` are instructions: the only restriction the encodings leave is that the counter
registers are numbered 0 to 30 (30_encoding.md section 5: 31 is PMCCFILTR in the type group, nothing in the other). -/

namespace Sys2Proof

/-- The number of an event counter register is 0 to 30 (42_pmu_controls.md R165, R166). -/
def counterNumber (n : BitVec 5) : Bool := n != 31

/-- The instruction's operands are ones the encoding admits. -/
def Instr.wellFormed : Instr → Bool
  | .mrsPmevcntrEl0 n _ => counterNumber n
  | .msrPmevcntrEl0 n _ => counterNumber n
  | .mrsPmevtyperEl0 n _ => counterNumber n
  | .msrPmevtyperEl0 n _ => counterNumber n
  | .mrcPmevcntr _ n _ => counterNumber n
  | .mcrPmevcntr _ n _ => counterNumber n
  | .mrcPmevtyper _ n _ => counterNumber n
  | .mcrPmevtyper _ n _ => counterNumber n
  | _ => true

end Sys2Proof
end

