-- ==== Sys2Proof/Decode.lean ====
section
/-! DEFINITION. From words to instructions and back (30_encoding.md): the selectors of every register, the fields of the
eight instruction forms, a total decoder that rejects by name, and after it the encoder from the same selectors. -/

namespace Sys2Proof

/-! ### The selectors of section 5.1 -/

def Enc.mdcrEl2 : SysEnc := ⟨3, 4, 1, 1, 1⟩
def Enc.mdccsrEl0 : SysEnc := ⟨2, 3, 0, 1, 0⟩
def Enc.mdccintEl1 : SysEnc := ⟨2, 0, 0, 2, 0⟩
def Enc.osdtrrxEl1 : SysEnc := ⟨2, 0, 0, 0, 2⟩
def Enc.osdtrtxEl1 : SysEnc := ⟨2, 0, 0, 3, 2⟩
def Enc.dbgdtrEl0 : SysEnc := ⟨2, 3, 0, 4, 0⟩
def Enc.dbgdtrrxEl0 : SysEnc := ⟨2, 3, 0, 5, 0⟩
def Enc.dbgdtrtxEl0 : SysEnc := ⟨2, 3, 0, 5, 0⟩
def Enc.mdscrEl1 : SysEnc := ⟨2, 0, 0, 2, 2⟩
def Enc.oseccrEl1 : SysEnc := ⟨2, 0, 0, 6, 2⟩
def Enc.dbgbvrEl1 (n : BitVec 4) : SysEnc := ⟨2, 0, 0, n, 4⟩
def Enc.dbgbcrEl1 (n : BitVec 4) : SysEnc := ⟨2, 0, 0, n, 5⟩
def Enc.dbgwvrEl1 (n : BitVec 4) : SysEnc := ⟨2, 0, 0, n, 6⟩
def Enc.dbgwcrEl1 (n : BitVec 4) : SysEnc := ⟨2, 0, 0, n, 7⟩
def Enc.dbgclaimsetEl1 : SysEnc := ⟨2, 0, 7, 8, 6⟩
def Enc.dbgclaimclrEl1 : SysEnc := ⟨2, 0, 7, 9, 6⟩
def Enc.dbgauthstatusEl1 : SysEnc := ⟨2, 0, 7, 14, 6⟩
def Enc.mdrarEl1 : SysEnc := ⟨2, 0, 1, 0, 0⟩
def Enc.oslarEl1 : SysEnc := ⟨2, 0, 1, 0, 4⟩
def Enc.oslsrEl1 : SysEnc := ⟨2, 0, 1, 1, 4⟩
def Enc.osdlrEl1 : SysEnc := ⟨2, 0, 1, 3, 4⟩
def Enc.dbgprcrEl1 : SysEnc := ⟨2, 0, 1, 4, 4⟩
def Enc.pmcrEl0 : SysEnc := ⟨3, 3, 9, 12, 0⟩
def Enc.pmcntensetEl0 : SysEnc := ⟨3, 3, 9, 12, 1⟩
def Enc.pmcntenclrEl0 : SysEnc := ⟨3, 3, 9, 12, 2⟩
def Enc.pmovsclrEl0 : SysEnc := ⟨3, 3, 9, 12, 3⟩
def Enc.pmswincEl0 : SysEnc := ⟨3, 3, 9, 12, 4⟩
def Enc.pmselrEl0 : SysEnc := ⟨3, 3, 9, 12, 5⟩
def Enc.pmceid0El0 : SysEnc := ⟨3, 3, 9, 12, 6⟩
def Enc.pmceid1El0 : SysEnc := ⟨3, 3, 9, 12, 7⟩
def Enc.pmccntrEl0 : SysEnc := ⟨3, 3, 9, 13, 0⟩
def Enc.pmxevtyperEl0 : SysEnc := ⟨3, 3, 9, 13, 1⟩
def Enc.pmxevcntrEl0 : SysEnc := ⟨3, 3, 9, 13, 2⟩
def Enc.pmuserenrEl0 : SysEnc := ⟨3, 3, 9, 14, 0⟩
def Enc.pmovssetEl0 : SysEnc := ⟨3, 3, 9, 14, 3⟩
def Enc.pmintensetEl1 : SysEnc := ⟨3, 0, 9, 14, 1⟩
def Enc.pmintenclrEl1 : SysEnc := ⟨3, 0, 9, 14, 2⟩
def Enc.pmmirEl1 : SysEnc := ⟨3, 0, 9, 14, 6⟩
def Enc.pmccfiltrEl0 : SysEnc := ⟨3, 3, 14, 15, 7⟩
/-- n is spread over CRm[1:0] and op2 (30_encoding.md section 5.1). -/
def Enc.pmevcntrEl0 (n : BitVec 5) : SysEnc := ⟨3, 3, 14, 2#2 ++ n.extractLsb' 3 2, n.extractLsb' 0 3⟩
/-- n is spread over CRm[1:0] and op2 (30_encoding.md section 5.1). -/
def Enc.pmevtyperEl0 (n : BitVec 5) : SysEnc := ⟨3, 3, 14, 3#2 ++ n.extractLsb' 3 2, n.extractLsb' 0 3⟩
def Enc.pmscrEl1 : SysEnc := ⟨3, 0, 9, 9, 0⟩
def Enc.pmsicrEl1 : SysEnc := ⟨3, 0, 9, 9, 2⟩
def Enc.pmsirrEl1 : SysEnc := ⟨3, 0, 9, 9, 3⟩
def Enc.pmsfcrEl1 : SysEnc := ⟨3, 0, 9, 9, 4⟩
def Enc.pmsevfrEl1 : SysEnc := ⟨3, 0, 9, 9, 5⟩
def Enc.pmslatfrEl1 : SysEnc := ⟨3, 0, 9, 9, 6⟩
def Enc.pmsidrEl1 : SysEnc := ⟨3, 0, 9, 9, 7⟩
def Enc.pmblimitrEl1 : SysEnc := ⟨3, 0, 9, 10, 0⟩
def Enc.pmbptrEl1 : SysEnc := ⟨3, 0, 9, 10, 1⟩
def Enc.pmbsrEl1 : SysEnc := ⟨3, 0, 9, 10, 3⟩
def Enc.pmbidrEl1 : SysEnc := ⟨3, 0, 9, 10, 7⟩
def Enc.trfcrEl1 : SysEnc := ⟨3, 0, 1, 2, 1⟩

/-! ### The selectors of section 5.2 -/

def Enc32.hdcr : CpEnc := ⟨15, 4, 1, 1, 1⟩
def Enc32.dbgdidr : CpEnc := ⟨14, 0, 0, 0, 0⟩
def Enc32.dbgdscrint : CpEnc := ⟨14, 0, 0, 1, 0⟩
def Enc32.dbgdtrrxint : CpEnc := ⟨14, 0, 0, 5, 0⟩
def Enc32.dbgdtrtxint : CpEnc := ⟨14, 0, 0, 5, 0⟩
def Enc32.dbgdccint : CpEnc := ⟨14, 0, 0, 2, 0⟩
def Enc32.dbgdtrrxext : CpEnc := ⟨14, 0, 0, 0, 2⟩
def Enc32.dbgdtrtxext : CpEnc := ⟨14, 0, 0, 3, 2⟩
def Enc32.dbgdscrext : CpEnc := ⟨14, 0, 0, 2, 2⟩
def Enc32.dbgwfar : CpEnc := ⟨14, 0, 0, 6, 0⟩
def Enc32.dbgvcr : CpEnc := ⟨14, 0, 0, 7, 0⟩
def Enc32.dbgoseccr : CpEnc := ⟨14, 0, 0, 6, 2⟩
def Enc32.dbgbvr (n : BitVec 4) : CpEnc := ⟨14, 0, 0, n, 4⟩
def Enc32.dbgbcr (n : BitVec 4) : CpEnc := ⟨14, 0, 0, n, 5⟩
def Enc32.dbgwvr (n : BitVec 4) : CpEnc := ⟨14, 0, 0, n, 6⟩
def Enc32.dbgwcr (n : BitVec 4) : CpEnc := ⟨14, 0, 0, n, 7⟩
def Enc32.dbgbxvr (n : BitVec 4) : CpEnc := ⟨14, 0, 1, n, 1⟩
def Enc32.dbgclaimset : CpEnc := ⟨14, 0, 7, 8, 6⟩
def Enc32.dbgclaimclr : CpEnc := ⟨14, 0, 7, 9, 6⟩
def Enc32.dbgauthstatus : CpEnc := ⟨14, 0, 7, 14, 6⟩
def Enc32.dbgdevid : CpEnc := ⟨14, 0, 7, 2, 7⟩
def Enc32.dbgdevid1 : CpEnc := ⟨14, 0, 7, 1, 7⟩
def Enc32.dbgdevid2 : CpEnc := ⟨14, 0, 7, 0, 7⟩
def Enc32.dbgdrar : CpEnc := ⟨14, 0, 1, 0, 0⟩
def Enc32.dbgdsar : CpEnc := ⟨14, 0, 2, 0, 0⟩
def Enc32.dbgoslar : CpEnc := ⟨14, 0, 1, 0, 4⟩
def Enc32.dbgoslsr : CpEnc := ⟨14, 0, 1, 1, 4⟩
def Enc32.dbgosdlr : CpEnc := ⟨14, 0, 1, 3, 4⟩
def Enc32.dbgprcr : CpEnc := ⟨14, 0, 1, 4, 4⟩
def Enc32.trfcr : CpEnc := ⟨15, 0, 1, 2, 1⟩
def Enc32.pmcr : CpEnc := ⟨15, 0, 9, 12, 0⟩
def Enc32.pmcntenset : CpEnc := ⟨15, 0, 9, 12, 1⟩
def Enc32.pmcntenclr : CpEnc := ⟨15, 0, 9, 12, 2⟩
def Enc32.pmovsr : CpEnc := ⟨15, 0, 9, 12, 3⟩
def Enc32.pmswinc : CpEnc := ⟨15, 0, 9, 12, 4⟩
def Enc32.pmselr : CpEnc := ⟨15, 0, 9, 12, 5⟩
def Enc32.pmceid0 : CpEnc := ⟨15, 0, 9, 12, 6⟩
def Enc32.pmceid1 : CpEnc := ⟨15, 0, 9, 12, 7⟩
def Enc32.pmceid2 : CpEnc := ⟨15, 0, 9, 14, 4⟩
def Enc32.pmceid3 : CpEnc := ⟨15, 0, 9, 14, 5⟩
def Enc32.pmccntr : CpEnc := ⟨15, 0, 9, 13, 0⟩
def Enc32.pmxevtyper : CpEnc := ⟨15, 0, 9, 13, 1⟩
def Enc32.pmxevcntr : CpEnc := ⟨15, 0, 9, 13, 2⟩
def Enc32.pmuserenr : CpEnc := ⟨15, 0, 9, 14, 0⟩
def Enc32.pmintenset : CpEnc := ⟨15, 0, 9, 14, 1⟩
def Enc32.pmintenclr : CpEnc := ⟨15, 0, 9, 14, 2⟩
def Enc32.pmovsset : CpEnc := ⟨15, 0, 9, 14, 3⟩
def Enc32.pmmir : CpEnc := ⟨15, 0, 9, 14, 6⟩
def Enc32.pmccfiltr : CpEnc := ⟨15, 0, 14, 15, 7⟩
def Enc32.pmevcntr (n : BitVec 5) : CpEnc := ⟨15, 0, 14, 2#2 ++ n.extractLsb' 3 2, n.extractLsb' 0 3⟩
def Enc32.pmevtyper (n : BitVec 5) : CpEnc := ⟨15, 0, 14, 3#2 ++ n.extractLsb' 3 2, n.extractLsb' 0 3⟩
def Enc64.dbgdrar : Cp64Enc := ⟨14, 0, 1⟩
def Enc64.dbgdsar : Cp64Enc := ⟨14, 0, 2⟩
def Enc64.pmccntr : Cp64Enc := ⟨15, 0, 9⟩

/-! ### Forms: the fields of a word -/

/-- The fields of an instruction word (30_encoding.md R62, R65, R66). -/
inductive Form where
  /-- MRS (`read`) and MSR. -/
  | a64 (read : Bool) (e : SysEnc) (t : XReg)
  /-- MRC (`read`) and MCR. -/
  | cp (read : Bool) (cond : Cond) (e : CpEnc) (t : RReg)
  /-- MRRC (`read`) and MCRR. -/
  | cp64 (read : Bool) (cond : Cond) (e : Cp64Enc) (t t2 : RReg)
  /-- LDC (`load`) and STC with p14, c5. -/
  | ldst (load : Bool) (cond : Cond) (p u w : Bool) (rn : RReg) (imm8 : BitVec 8)
  deriving DecidableEq, Repr

/-- A one-bit field. -/
def bitField (w : Word32) (i : Nat) : Bool := w.getLsbD i

/-- The fields of an A64 word of the form of 30_encoding.md R62. -/
def Form.parseA64 (w : Word32) : Option Form :=
  if w.extractLsb' 22 10 = 0b1101010100 ∧ w.getLsbD 20 then
    some (.a64 (bitField w 21) ⟨w.extractLsb' 19 2, w.extractLsb' 16 3, w.extractLsb' 12 4, w.extractLsb' 8 4,
      w.extractLsb' 5 3⟩ (w.extractLsb' 0 5))
  else none

/-- The fields of an A32 word, and of a T32 word with its two halfwords joined (30_encoding.md R65, R66; the words of
MRRC, MCRR, LDC and STC by the opcode table, notes/assumptions 8). -/
def Form.parseA32 (w : Word32) : Option Form :=
  if w.extractLsb' 24 4 = 0b1110 ∧ w.getLsbD 4 then
    some (.cp (bitField w 20) (w.extractLsb' 28 4) ⟨w.extractLsb' 8 4, w.extractLsb' 21 3, w.extractLsb' 16 4,
      w.extractLsb' 0 4, w.extractLsb' 5 3⟩ (w.extractLsb' 12 4))
  else if w.extractLsb' 21 7 = 0b1100010 then
    some (.cp64 (bitField w 20) (w.extractLsb' 28 4) ⟨w.extractLsb' 8 4, w.extractLsb' 4 4, w.extractLsb' 0 4⟩
      (w.extractLsb' 12 4) (w.extractLsb' 16 4))
  else if w.extractLsb' 25 3 = 0b110 ∧ !w.getLsbD 22 ∧ w.extractLsb' 8 8 = 0x5E then
    some (.ldst (bitField w 20) (w.extractLsb' 28 4) (bitField w 24) (bitField w 23) (bitField w 21)
      (w.extractLsb' 16 4) (w.extractLsb' 0 8))
  else none

/-- The instruction sets (30_encoding.md R67). -/
inductive InstrSet where
  | a64
  | a32
  | t32
  deriving DecidableEq, Repr

/-- The fields of a word of the instruction set. A T32 word of these forms has 0b1110 in bits [31:28]
(30_encoding.md R65). -/
def Form.parse : InstrSet → Word32 → Option Form
  | .a64, w => Form.parseA64 w
  | .a32, w => Form.parseA32 w
  | .t32, w => if w.extractLsb' 28 4 = 0b1110 then Form.parseA32 w else none

/-! ### From fields to instructions -/

/-- What decoding answers. -/
inductive Decoded where
  | instr (i : Instr)
  /-- A System register encoding of the tables that is not allocated for this direction or number
  (30_encoding.md R68). -/
  | unallocated (w : Word32)
  /-- "Every other instruction word is outside this spec." (30_encoding.md R71). -/
  | outsideSpec (w : Word32)
  /-- Fewer bytes than an instruction has. -/
  | tooShort
  deriving DecidableEq, Repr

/-- The two directions of a register: none where it is not allocated (30_encoding.md R68). -/
structure SysRow where
  enc : SysEnc
  mrs : Option (XReg → Instr)
  msr : Option (XReg → Instr)

/-- The same for MRC and MCR. -/
structure CpRow where
  enc : CpEnc
  mrc : Option (Cond → RReg → Instr)
  mcr : Option (Cond → RReg → Instr)

/-- The same for MRRC and MCRR. -/
structure Cp64Row where
  enc : Cp64Enc
  mrrc : Option (Cond → RReg → RReg → Instr)
  mcrr : Option (Cond → RReg → RReg → Instr)

def sysRows1 : List SysRow := [
  ⟨Enc.mdcrEl2, some .mrsMdcrEl2, some .msrMdcrEl2⟩,
  ⟨Enc.mdccsrEl0, some .mrsMdccsrEl0, none⟩,
  ⟨Enc.mdccintEl1, some .mrsMdccintEl1, some .msrMdccintEl1⟩,
  ⟨Enc.osdtrrxEl1, some .mrsOsdtrrxEl1, some .msrOsdtrrxEl1⟩,
  ⟨Enc.osdtrtxEl1, some .mrsOsdtrtxEl1, some .msrOsdtrtxEl1⟩,
  ⟨Enc.dbgdtrEl0, some .mrsDbgdtrEl0, some .msrDbgdtrEl0⟩,
  ⟨Enc.dbgdtrrxEl0, some .mrsDbgdtrrxEl0, some .msrDbgdtrtxEl0⟩,
  ⟨Enc.mdscrEl1, some .mrsMdscrEl1, some .msrMdscrEl1⟩,
  ⟨Enc.oseccrEl1, some .mrsOseccrEl1, some .msrOseccrEl1⟩,
  ⟨Enc.dbgclaimsetEl1, some .mrsDbgclaimsetEl1, some .msrDbgclaimsetEl1⟩,
  ⟨Enc.dbgclaimclrEl1, some .mrsDbgclaimclrEl1, some .msrDbgclaimclrEl1⟩,
  ⟨Enc.dbgauthstatusEl1, some .mrsDbgauthstatusEl1, none⟩,
  ⟨Enc.mdrarEl1, some .mrsMdrarEl1, none⟩,
  ⟨Enc.oslarEl1, none, some .msrOslarEl1⟩,
  ⟨Enc.oslsrEl1, some .mrsOslsrEl1, none⟩,
  ⟨Enc.osdlrEl1, some .mrsOsdlrEl1, some .msrOsdlrEl1⟩]

def sysRows2 : List SysRow := [
  ⟨Enc.dbgprcrEl1, some .mrsDbgprcrEl1, some .msrDbgprcrEl1⟩,
  ⟨Enc.pmcrEl0, some .mrsPmcrEl0, some .msrPmcrEl0⟩,
  ⟨Enc.pmcntensetEl0, some .mrsPmcntensetEl0, some .msrPmcntensetEl0⟩,
  ⟨Enc.pmcntenclrEl0, some .mrsPmcntenclrEl0, some .msrPmcntenclrEl0⟩,
  ⟨Enc.pmovsclrEl0, some .mrsPmovsclrEl0, some .msrPmovsclrEl0⟩,
  ⟨Enc.pmswincEl0, none, some .msrPmswincEl0⟩,
  ⟨Enc.pmselrEl0, some .mrsPmselrEl0, some .msrPmselrEl0⟩,
  ⟨Enc.pmceid0El0, some .mrsPmceid0El0, none⟩,
  ⟨Enc.pmceid1El0, some .mrsPmceid1El0, none⟩,
  ⟨Enc.pmccntrEl0, some .mrsPmccntrEl0, some .msrPmccntrEl0⟩,
  ⟨Enc.pmxevtyperEl0, some .mrsPmxevtyperEl0, some .msrPmxevtyperEl0⟩,
  ⟨Enc.pmxevcntrEl0, some .mrsPmxevcntrEl0, some .msrPmxevcntrEl0⟩,
  ⟨Enc.pmuserenrEl0, some .mrsPmuserenrEl0, some .msrPmuserenrEl0⟩,
  ⟨Enc.pmovssetEl0, some .mrsPmovssetEl0, some .msrPmovssetEl0⟩,
  ⟨Enc.pmintensetEl1, some .mrsPmintensetEl1, some .msrPmintensetEl1⟩,
  ⟨Enc.pmintenclrEl1, some .mrsPmintenclrEl1, some .msrPmintenclrEl1⟩]

def sysRows3 : List SysRow := [
  ⟨Enc.pmmirEl1, some .mrsPmmirEl1, none⟩,
  ⟨Enc.pmccfiltrEl0, some .mrsPmccfiltrEl0, some .msrPmccfiltrEl0⟩,
  ⟨Enc.pmscrEl1, some .mrsPmscrEl1, some .msrPmscrEl1⟩,
  ⟨Enc.pmsicrEl1, some .mrsPmsicrEl1, some .msrPmsicrEl1⟩,
  ⟨Enc.pmsirrEl1, some .mrsPmsirrEl1, some .msrPmsirrEl1⟩,
  ⟨Enc.pmsfcrEl1, some .mrsPmsfcrEl1, some .msrPmsfcrEl1⟩,
  ⟨Enc.pmsevfrEl1, some .mrsPmsevfrEl1, some .msrPmsevfrEl1⟩,
  ⟨Enc.pmslatfrEl1, some .mrsPmslatfrEl1, some .msrPmslatfrEl1⟩,
  ⟨Enc.pmsidrEl1, some .mrsPmsidrEl1, none⟩,
  ⟨Enc.pmblimitrEl1, some .mrsPmblimitrEl1, some .msrPmblimitrEl1⟩,
  ⟨Enc.pmbptrEl1, some .mrsPmbptrEl1, some .msrPmbptrEl1⟩,
  ⟨Enc.pmbsrEl1, some .mrsPmbsrEl1, some .msrPmbsrEl1⟩,
  ⟨Enc.pmbidrEl1, some .mrsPmbidrEl1, none⟩,
  ⟨Enc.trfcrEl1, some .mrsTrfcrEl1, some .msrTrfcrEl1⟩]

/-- Every AArch64 register of 30_encoding.md section 5.1 with one number. -/
def sysRows : List SysRow := sysRows1 ++ sysRows2 ++ sysRows3

def cpRows1 : List CpRow := [
  ⟨Enc32.hdcr, some .mrcHdcr, some .mcrHdcr⟩,
  ⟨Enc32.dbgdidr, some .mrcDbgdidr, none⟩,
  ⟨Enc32.dbgdscrint, some .mrcDbgdscrint, none⟩,
  ⟨Enc32.dbgdtrrxint, some .mrcDbgdtrrxint, some .mcrDbgdtrtxint⟩,
  ⟨Enc32.dbgdccint, some .mrcDbgdccint, some .mcrDbgdccint⟩,
  ⟨Enc32.dbgdtrrxext, some .mrcDbgdtrrxext, some .mcrDbgdtrrxext⟩,
  ⟨Enc32.dbgdtrtxext, some .mrcDbgdtrtxext, some .mcrDbgdtrtxext⟩,
  ⟨Enc32.dbgdscrext, some .mrcDbgdscrext, some .mcrDbgdscrext⟩,
  ⟨Enc32.dbgwfar, some .mrcDbgwfar, some .mcrDbgwfar⟩,
  ⟨Enc32.dbgvcr, some .mrcDbgvcr, some .mcrDbgvcr⟩,
  ⟨Enc32.dbgoseccr, some .mrcDbgoseccr, some .mcrDbgoseccr⟩,
  ⟨Enc32.dbgclaimset, some .mrcDbgclaimset, some .mcrDbgclaimset⟩,
  ⟨Enc32.dbgclaimclr, some .mrcDbgclaimclr, some .mcrDbgclaimclr⟩,
  ⟨Enc32.dbgauthstatus, some .mrcDbgauthstatus, none⟩,
  ⟨Enc32.dbgdevid, some .mrcDbgdevid, none⟩,
  ⟨Enc32.dbgdevid1, some .mrcDbgdevid1, none⟩]

def cpRows2 : List CpRow := [
  ⟨Enc32.dbgdevid2, some .mrcDbgdevid2, none⟩,
  ⟨Enc32.dbgdrar, some .mrcDbgdrar, none⟩,
  ⟨Enc32.dbgdsar, some .mrcDbgdsar, none⟩,
  ⟨Enc32.dbgoslar, none, some .mcrDbgoslar⟩,
  ⟨Enc32.dbgoslsr, some .mrcDbgoslsr, none⟩,
  ⟨Enc32.dbgosdlr, some .mrcDbgosdlr, some .mcrDbgosdlr⟩,
  ⟨Enc32.dbgprcr, some .mrcDbgprcr, some .mcrDbgprcr⟩,
  ⟨Enc32.trfcr, some .mrcTrfcr, some .mcrTrfcr⟩,
  ⟨Enc32.pmcr, some .mrcPmcr, some .mcrPmcr⟩,
  ⟨Enc32.pmcntenset, some .mrcPmcntenset, some .mcrPmcntenset⟩,
  ⟨Enc32.pmcntenclr, some .mrcPmcntenclr, some .mcrPmcntenclr⟩,
  ⟨Enc32.pmovsr, some .mrcPmovsr, some .mcrPmovsr⟩,
  ⟨Enc32.pmswinc, none, some .mcrPmswinc⟩,
  ⟨Enc32.pmselr, some .mrcPmselr, some .mcrPmselr⟩,
  ⟨Enc32.pmceid0, some .mrcPmceid0, none⟩,
  ⟨Enc32.pmceid1, some .mrcPmceid1, none⟩]

def cpRows3 : List CpRow := [
  ⟨Enc32.pmceid2, some .mrcPmceid2, none⟩,
  ⟨Enc32.pmceid3, some .mrcPmceid3, none⟩,
  ⟨Enc32.pmccntr, some .mrcPmccntr, some .mcrPmccntr⟩,
  ⟨Enc32.pmxevtyper, some .mrcPmxevtyper, some .mcrPmxevtyper⟩,
  ⟨Enc32.pmxevcntr, some .mrcPmxevcntr, some .mcrPmxevcntr⟩,
  ⟨Enc32.pmuserenr, some .mrcPmuserenr, some .mcrPmuserenr⟩,
  ⟨Enc32.pmintenset, some .mrcPmintenset, some .mcrPmintenset⟩,
  ⟨Enc32.pmintenclr, some .mrcPmintenclr, some .mcrPmintenclr⟩,
  ⟨Enc32.pmovsset, some .mrcPmovsset, some .mcrPmovsset⟩,
  ⟨Enc32.pmmir, some .mrcPmmir, none⟩,
  ⟨Enc32.pmccfiltr, some .mrcPmccfiltr, some .mcrPmccfiltr⟩]

/-- Every AArch32 register of 30_encoding.md section 5.2 with one number. -/
def cpRows : List CpRow := cpRows1 ++ cpRows2 ++ cpRows3

def cpRows64x1 : List Cp64Row := [
  ⟨Enc64.dbgdrar, some .mrrcDbgdrar, none⟩,
  ⟨Enc64.dbgdsar, some .mrrcDbgdsar, none⟩,
  ⟨Enc64.pmccntr, some .mrrcPmccntr, some .mcrrPmccntr⟩]

/-- The 64-bit transfers of 30_encoding.md section 5.2. -/
def cp64Rows : List Cp64Row := cpRows64x1

/-- An indexed AArch64 register: breakpoints, watchpoints and event counters (30_encoding.md section 5.1). -/
def indexedSys (read : Bool) (e : SysEnc) (t : XReg) (w : Word32) : Decoded :=
  if e.op0 = 2 ∧ e.op1 = 0 ∧ e.crn = 0 ∧ 4 ≤ e.op2.toNat then
    match e.op2.toNat, read with
    | 4, true => .instr (.mrsDbgbvrEl1 e.crm t)
    | 4, false => .instr (.msrDbgbvrEl1 e.crm t)
    | 5, true => .instr (.mrsDbgbcrEl1 e.crm t)
    | 5, false => .instr (.msrDbgbcrEl1 e.crm t)
    | 6, true => .instr (.mrsDbgwvrEl1 e.crm t)
    | 6, false => .instr (.msrDbgwvrEl1 e.crm t)
    | _, true => .instr (.mrsDbgwcrEl1 e.crm t)
    | _, false => .instr (.msrDbgwcrEl1 e.crm t)
  else if e.op0 = 3 ∧ e.op1 = 3 ∧ e.crn = 14 ∧ e.crm.getLsbD 3 then
    let n : BitVec 5 := e.crm.extractLsb' 0 2 ++ e.op2
    if n = 31 then .unallocated w
    else match e.crm.getLsbD 2, read with
      | false, true => .instr (.mrsPmevcntrEl0 n t)
      | false, false => .instr (.msrPmevcntrEl0 n t)
      | true, true => .instr (.mrsPmevtyperEl0 n t)
      | true, false => .instr (.msrPmevtyperEl0 n t)
  else .outsideSpec w

/-- An indexed AArch32 register (30_encoding.md section 5.2). -/
def indexedCp (read : Bool) (cond : Cond) (e : CpEnc) (t : RReg) (w : Word32) : Decoded :=
  if e.coproc = 14 ∧ e.opc1 = 0 ∧ e.crn = 0 ∧ 4 ≤ e.opc2.toNat then
    match e.opc2.toNat, read with
    | 4, true => .instr (.mrcDbgbvr cond e.crm t)
    | 4, false => .instr (.mcrDbgbvr cond e.crm t)
    | 5, true => .instr (.mrcDbgbcr cond e.crm t)
    | 5, false => .instr (.mcrDbgbcr cond e.crm t)
    | 6, true => .instr (.mrcDbgwvr cond e.crm t)
    | 6, false => .instr (.mcrDbgwvr cond e.crm t)
    | _, true => .instr (.mrcDbgwcr cond e.crm t)
    | _, false => .instr (.mcrDbgwcr cond e.crm t)
  else if e.coproc = 14 ∧ e.opc1 = 0 ∧ e.crn = 1 ∧ e.opc2 = 1 then
    if read then .instr (.mrcDbgbxvr cond e.crm t) else .instr (.mcrDbgbxvr cond e.crm t)
  else if e.coproc = 15 ∧ e.opc1 = 0 ∧ e.crn = 14 ∧ e.crm.getLsbD 3 then
    let n : BitVec 5 := e.crm.extractLsb' 0 2 ++ e.opc2
    if n = 31 then .unallocated w
    else match e.crm.getLsbD 2, read with
      | false, true => .instr (.mrcPmevcntr cond n t)
      | false, false => .instr (.mcrPmevcntr cond n t)
      | true, true => .instr (.mrcPmevtyper cond n t)
      | true, false => .instr (.mcrPmevtyper cond n t)
  else .outsideSpec w

/-- The instruction that the fields name (30_encoding.md R71). -/
def Form.decode (w : Word32) : Form → Decoded
  | .a64 read e t =>
    match sysRows.find? (fun r => r.enc == e) with
    | some r =>
      match if read then r.mrs else r.msr with
      | some f => .instr (f t)
      | none => .unallocated w
    | none => indexedSys read e t w
  | .cp read cond e t =>
    match cpRows.find? (fun r => r.enc == e) with
    | some r =>
      match if read then r.mrc else r.mcr with
      | some f => .instr (f cond t)
      | none => .unallocated w
    | none => indexedCp read cond e t w
  | .cp64 read cond e t t2 =>
    match cp64Rows.find? (fun r => r.enc == e) with
    | some r =>
      match if read then r.mrrc else r.mcrr with
      | some f => .instr (f cond t t2)
      | none => .unallocated w
    | none => .outsideSpec w
  | .ldst true cond p u w' rn imm8 => .instr (.ldcDbgdtrtxint cond p u w' rn imm8)
  | .ldst false cond p u w' rn imm8 => .instr (.stcDbgdtrrxint cond p u w' rn imm8)

/-- A word of the instruction set: the fields, then the table (30_encoding.md R71). -/
def decodeWord (isa : InstrSet) (w : Word32) : Decoded :=
  match Form.parse isa w with
  | some f => f.decode w
  | none => .outsideSpec w

/-- Four bytes as an instruction word: little-endian, and in T32 two little-endian halfwords, the first one on top
(20_memory.md R54; notes/assumptions 6). -/
def wordOfBytes : InstrSet → Byte → Byte → Byte → Byte → Word32
  | .t32, b0, b1, b2, b3 => b1 ++ b0 ++ b3 ++ b2
  | _, b0, b1, b2, b3 => b3 ++ b2 ++ b1 ++ b0

/-- THE DECODER: total on any bytes; it answers an instruction or a named rejection. -/
def decode (isa : InstrSet) : List Byte → Decoded
  | b0 :: b1 :: b2 :: b3 :: _ => decodeWord isa (wordOfBytes isa b0 b1 b2 b3)
  | _ => .tooShort

/-! ### The encoder -/

/-- The word with these fields. -/
def Form.word : Form → Word32
  | .a64 read e t => 0b1101010100#10 ++ BitVec.ofBool read ++ e.op0 ++ e.op1 ++ e.crn ++ e.crm ++ e.op2 ++ t
  | .cp read cond e t =>
    cond ++ 0b1110#4 ++ e.opc1 ++ BitVec.ofBool read ++ e.crn ++ t ++ e.coproc ++ e.opc2 ++ 1#1 ++ e.crm
  | .cp64 read cond e t t2 =>
    cond ++ 0b1100010#7 ++ BitVec.ofBool read ++ t2 ++ t ++ e.coproc ++ e.opc1 ++ e.crm
  | .ldst load cond p u w rn imm8 =>
    cond ++ 0b110#3 ++ BitVec.ofBool p ++ BitVec.ofBool u ++ 0#1 ++ BitVec.ofBool w ++ BitVec.ofBool load ++ rn
      ++ 0b01011110#8 ++ imm8

/-- The fields of each instruction (30_encoding.md section 5). -/
def Instr.form : Instr → Form
  | .mrsMdcrEl2 t => .a64 true Enc.mdcrEl2 t
  | .msrMdcrEl2 t => .a64 false Enc.mdcrEl2 t
  | .mrsMdccsrEl0 t => .a64 true Enc.mdccsrEl0 t
  | .mrsMdccintEl1 t => .a64 true Enc.mdccintEl1 t
  | .msrMdccintEl1 t => .a64 false Enc.mdccintEl1 t
  | .mrsOsdtrrxEl1 t => .a64 true Enc.osdtrrxEl1 t
  | .msrOsdtrrxEl1 t => .a64 false Enc.osdtrrxEl1 t
  | .mrsOsdtrtxEl1 t => .a64 true Enc.osdtrtxEl1 t
  | .msrOsdtrtxEl1 t => .a64 false Enc.osdtrtxEl1 t
  | .mrsDbgdtrEl0 t => .a64 true Enc.dbgdtrEl0 t
  | .msrDbgdtrEl0 t => .a64 false Enc.dbgdtrEl0 t
  | .mrsDbgdtrrxEl0 t => .a64 true Enc.dbgdtrrxEl0 t
  | .msrDbgdtrtxEl0 t => .a64 false Enc.dbgdtrtxEl0 t
  | .mrsMdscrEl1 t => .a64 true Enc.mdscrEl1 t
  | .msrMdscrEl1 t => .a64 false Enc.mdscrEl1 t
  | .mrsOseccrEl1 t => .a64 true Enc.oseccrEl1 t
  | .msrOseccrEl1 t => .a64 false Enc.oseccrEl1 t
  | .mrsDbgbvrEl1 n t => .a64 true (Enc.dbgbvrEl1 n) t
  | .msrDbgbvrEl1 n t => .a64 false (Enc.dbgbvrEl1 n) t
  | .mrsDbgbcrEl1 n t => .a64 true (Enc.dbgbcrEl1 n) t
  | .msrDbgbcrEl1 n t => .a64 false (Enc.dbgbcrEl1 n) t
  | .mrsDbgwvrEl1 n t => .a64 true (Enc.dbgwvrEl1 n) t
  | .msrDbgwvrEl1 n t => .a64 false (Enc.dbgwvrEl1 n) t
  | .mrsDbgwcrEl1 n t => .a64 true (Enc.dbgwcrEl1 n) t
  | .msrDbgwcrEl1 n t => .a64 false (Enc.dbgwcrEl1 n) t
  | .mrsDbgclaimsetEl1 t => .a64 true Enc.dbgclaimsetEl1 t
  | .msrDbgclaimsetEl1 t => .a64 false Enc.dbgclaimsetEl1 t
  | .mrsDbgclaimclrEl1 t => .a64 true Enc.dbgclaimclrEl1 t
  | .msrDbgclaimclrEl1 t => .a64 false Enc.dbgclaimclrEl1 t
  | .mrsDbgauthstatusEl1 t => .a64 true Enc.dbgauthstatusEl1 t
  | .mrsMdrarEl1 t => .a64 true Enc.mdrarEl1 t
  | .msrOslarEl1 t => .a64 false Enc.oslarEl1 t
  | .mrsOslsrEl1 t => .a64 true Enc.oslsrEl1 t
  | .mrsOsdlrEl1 t => .a64 true Enc.osdlrEl1 t
  | .msrOsdlrEl1 t => .a64 false Enc.osdlrEl1 t
  | .mrsDbgprcrEl1 t => .a64 true Enc.dbgprcrEl1 t
  | .msrDbgprcrEl1 t => .a64 false Enc.dbgprcrEl1 t
  | .mrsPmcrEl0 t => .a64 true Enc.pmcrEl0 t
  | .msrPmcrEl0 t => .a64 false Enc.pmcrEl0 t
  | .mrsPmcntensetEl0 t => .a64 true Enc.pmcntensetEl0 t
  | .msrPmcntensetEl0 t => .a64 false Enc.pmcntensetEl0 t
  | .mrsPmcntenclrEl0 t => .a64 true Enc.pmcntenclrEl0 t
  | .msrPmcntenclrEl0 t => .a64 false Enc.pmcntenclrEl0 t
  | .mrsPmovsclrEl0 t => .a64 true Enc.pmovsclrEl0 t
  | .msrPmovsclrEl0 t => .a64 false Enc.pmovsclrEl0 t
  | .msrPmswincEl0 t => .a64 false Enc.pmswincEl0 t
  | .mrsPmselrEl0 t => .a64 true Enc.pmselrEl0 t
  | .msrPmselrEl0 t => .a64 false Enc.pmselrEl0 t
  | .mrsPmceid0El0 t => .a64 true Enc.pmceid0El0 t
  | .mrsPmceid1El0 t => .a64 true Enc.pmceid1El0 t
  | .mrsPmccntrEl0 t => .a64 true Enc.pmccntrEl0 t
  | .msrPmccntrEl0 t => .a64 false Enc.pmccntrEl0 t
  | .mrsPmxevtyperEl0 t => .a64 true Enc.pmxevtyperEl0 t
  | .msrPmxevtyperEl0 t => .a64 false Enc.pmxevtyperEl0 t
  | .mrsPmxevcntrEl0 t => .a64 true Enc.pmxevcntrEl0 t
  | .msrPmxevcntrEl0 t => .a64 false Enc.pmxevcntrEl0 t
  | .mrsPmuserenrEl0 t => .a64 true Enc.pmuserenrEl0 t
  | .msrPmuserenrEl0 t => .a64 false Enc.pmuserenrEl0 t
  | .mrsPmovssetEl0 t => .a64 true Enc.pmovssetEl0 t
  | .msrPmovssetEl0 t => .a64 false Enc.pmovssetEl0 t
  | .mrsPmintensetEl1 t => .a64 true Enc.pmintensetEl1 t
  | .msrPmintensetEl1 t => .a64 false Enc.pmintensetEl1 t
  | .mrsPmintenclrEl1 t => .a64 true Enc.pmintenclrEl1 t
  | .msrPmintenclrEl1 t => .a64 false Enc.pmintenclrEl1 t
  | .mrsPmmirEl1 t => .a64 true Enc.pmmirEl1 t
  | .mrsPmccfiltrEl0 t => .a64 true Enc.pmccfiltrEl0 t
  | .msrPmccfiltrEl0 t => .a64 false Enc.pmccfiltrEl0 t
  | .mrsPmevcntrEl0 n t => .a64 true (Enc.pmevcntrEl0 n) t
  | .msrPmevcntrEl0 n t => .a64 false (Enc.pmevcntrEl0 n) t
  | .mrsPmevtyperEl0 n t => .a64 true (Enc.pmevtyperEl0 n) t
  | .msrPmevtyperEl0 n t => .a64 false (Enc.pmevtyperEl0 n) t
  | .mrsPmscrEl1 t => .a64 true Enc.pmscrEl1 t
  | .msrPmscrEl1 t => .a64 false Enc.pmscrEl1 t
  | .mrsPmsicrEl1 t => .a64 true Enc.pmsicrEl1 t
  | .msrPmsicrEl1 t => .a64 false Enc.pmsicrEl1 t
  | .mrsPmsirrEl1 t => .a64 true Enc.pmsirrEl1 t
  | .msrPmsirrEl1 t => .a64 false Enc.pmsirrEl1 t
  | .mrsPmsfcrEl1 t => .a64 true Enc.pmsfcrEl1 t
  | .msrPmsfcrEl1 t => .a64 false Enc.pmsfcrEl1 t
  | .mrsPmsevfrEl1 t => .a64 true Enc.pmsevfrEl1 t
  | .msrPmsevfrEl1 t => .a64 false Enc.pmsevfrEl1 t
  | .mrsPmslatfrEl1 t => .a64 true Enc.pmslatfrEl1 t
  | .msrPmslatfrEl1 t => .a64 false Enc.pmslatfrEl1 t
  | .mrsPmsidrEl1 t => .a64 true Enc.pmsidrEl1 t
  | .mrsPmblimitrEl1 t => .a64 true Enc.pmblimitrEl1 t
  | .msrPmblimitrEl1 t => .a64 false Enc.pmblimitrEl1 t
  | .mrsPmbptrEl1 t => .a64 true Enc.pmbptrEl1 t
  | .msrPmbptrEl1 t => .a64 false Enc.pmbptrEl1 t
  | .mrsPmbsrEl1 t => .a64 true Enc.pmbsrEl1 t
  | .msrPmbsrEl1 t => .a64 false Enc.pmbsrEl1 t
  | .mrsPmbidrEl1 t => .a64 true Enc.pmbidrEl1 t
  | .mrsTrfcrEl1 t => .a64 true Enc.trfcrEl1 t
  | .msrTrfcrEl1 t => .a64 false Enc.trfcrEl1 t
  | .mrcHdcr cond t => .cp true cond Enc32.hdcr t
  | .mcrHdcr cond t => .cp false cond Enc32.hdcr t
  | .mrcDbgdidr cond t => .cp true cond Enc32.dbgdidr t
  | .mrcDbgdscrint cond t => .cp true cond Enc32.dbgdscrint t
  | .mrcDbgdtrrxint cond t => .cp true cond Enc32.dbgdtrrxint t
  | .mcrDbgdtrtxint cond t => .cp false cond Enc32.dbgdtrtxint t
  | .mrcDbgdccint cond t => .cp true cond Enc32.dbgdccint t
  | .mcrDbgdccint cond t => .cp false cond Enc32.dbgdccint t
  | .mrcDbgdtrrxext cond t => .cp true cond Enc32.dbgdtrrxext t
  | .mcrDbgdtrrxext cond t => .cp false cond Enc32.dbgdtrrxext t
  | .mrcDbgdtrtxext cond t => .cp true cond Enc32.dbgdtrtxext t
  | .mcrDbgdtrtxext cond t => .cp false cond Enc32.dbgdtrtxext t
  | .mrcDbgdscrext cond t => .cp true cond Enc32.dbgdscrext t
  | .mcrDbgdscrext cond t => .cp false cond Enc32.dbgdscrext t
  | .mrcDbgwfar cond t => .cp true cond Enc32.dbgwfar t
  | .mcrDbgwfar cond t => .cp false cond Enc32.dbgwfar t
  | .mrcDbgvcr cond t => .cp true cond Enc32.dbgvcr t
  | .mcrDbgvcr cond t => .cp false cond Enc32.dbgvcr t
  | .mrcDbgoseccr cond t => .cp true cond Enc32.dbgoseccr t
  | .mcrDbgoseccr cond t => .cp false cond Enc32.dbgoseccr t
  | .mrcDbgbvr cond n t => .cp true cond (Enc32.dbgbvr n) t
  | .mcrDbgbvr cond n t => .cp false cond (Enc32.dbgbvr n) t
  | .mrcDbgbcr cond n t => .cp true cond (Enc32.dbgbcr n) t
  | .mcrDbgbcr cond n t => .cp false cond (Enc32.dbgbcr n) t
  | .mrcDbgwvr cond n t => .cp true cond (Enc32.dbgwvr n) t
  | .mcrDbgwvr cond n t => .cp false cond (Enc32.dbgwvr n) t
  | .mrcDbgwcr cond n t => .cp true cond (Enc32.dbgwcr n) t
  | .mcrDbgwcr cond n t => .cp false cond (Enc32.dbgwcr n) t
  | .mrcDbgbxvr cond n t => .cp true cond (Enc32.dbgbxvr n) t
  | .mcrDbgbxvr cond n t => .cp false cond (Enc32.dbgbxvr n) t
  | .mrcDbgclaimset cond t => .cp true cond Enc32.dbgclaimset t
  | .mcrDbgclaimset cond t => .cp false cond Enc32.dbgclaimset t
  | .mrcDbgclaimclr cond t => .cp true cond Enc32.dbgclaimclr t
  | .mcrDbgclaimclr cond t => .cp false cond Enc32.dbgclaimclr t
  | .mrcDbgauthstatus cond t => .cp true cond Enc32.dbgauthstatus t
  | .mrcDbgdevid cond t => .cp true cond Enc32.dbgdevid t
  | .mrcDbgdevid1 cond t => .cp true cond Enc32.dbgdevid1 t
  | .mrcDbgdevid2 cond t => .cp true cond Enc32.dbgdevid2 t
  | .mrcDbgdrar cond t => .cp true cond Enc32.dbgdrar t
  | .mrcDbgdsar cond t => .cp true cond Enc32.dbgdsar t
  | .mcrDbgoslar cond t => .cp false cond Enc32.dbgoslar t
  | .mrcDbgoslsr cond t => .cp true cond Enc32.dbgoslsr t
  | .mrcDbgosdlr cond t => .cp true cond Enc32.dbgosdlr t
  | .mcrDbgosdlr cond t => .cp false cond Enc32.dbgosdlr t
  | .mrcDbgprcr cond t => .cp true cond Enc32.dbgprcr t
  | .mcrDbgprcr cond t => .cp false cond Enc32.dbgprcr t
  | .mrcTrfcr cond t => .cp true cond Enc32.trfcr t
  | .mcrTrfcr cond t => .cp false cond Enc32.trfcr t
  | .mrcPmcr cond t => .cp true cond Enc32.pmcr t
  | .mcrPmcr cond t => .cp false cond Enc32.pmcr t
  | .mrcPmcntenset cond t => .cp true cond Enc32.pmcntenset t
  | .mcrPmcntenset cond t => .cp false cond Enc32.pmcntenset t
  | .mrcPmcntenclr cond t => .cp true cond Enc32.pmcntenclr t
  | .mcrPmcntenclr cond t => .cp false cond Enc32.pmcntenclr t
  | .mrcPmovsr cond t => .cp true cond Enc32.pmovsr t
  | .mcrPmovsr cond t => .cp false cond Enc32.pmovsr t
  | .mcrPmswinc cond t => .cp false cond Enc32.pmswinc t
  | .mrcPmselr cond t => .cp true cond Enc32.pmselr t
  | .mcrPmselr cond t => .cp false cond Enc32.pmselr t
  | .mrcPmceid0 cond t => .cp true cond Enc32.pmceid0 t
  | .mrcPmceid1 cond t => .cp true cond Enc32.pmceid1 t
  | .mrcPmceid2 cond t => .cp true cond Enc32.pmceid2 t
  | .mrcPmceid3 cond t => .cp true cond Enc32.pmceid3 t
  | .mrcPmccntr cond t => .cp true cond Enc32.pmccntr t
  | .mcrPmccntr cond t => .cp false cond Enc32.pmccntr t
  | .mrcPmxevtyper cond t => .cp true cond Enc32.pmxevtyper t
  | .mcrPmxevtyper cond t => .cp false cond Enc32.pmxevtyper t
  | .mrcPmxevcntr cond t => .cp true cond Enc32.pmxevcntr t
  | .mcrPmxevcntr cond t => .cp false cond Enc32.pmxevcntr t
  | .mrcPmuserenr cond t => .cp true cond Enc32.pmuserenr t
  | .mcrPmuserenr cond t => .cp false cond Enc32.pmuserenr t
  | .mrcPmintenset cond t => .cp true cond Enc32.pmintenset t
  | .mcrPmintenset cond t => .cp false cond Enc32.pmintenset t
  | .mrcPmintenclr cond t => .cp true cond Enc32.pmintenclr t
  | .mcrPmintenclr cond t => .cp false cond Enc32.pmintenclr t
  | .mrcPmovsset cond t => .cp true cond Enc32.pmovsset t
  | .mcrPmovsset cond t => .cp false cond Enc32.pmovsset t
  | .mrcPmmir cond t => .cp true cond Enc32.pmmir t
  | .mrcPmccfiltr cond t => .cp true cond Enc32.pmccfiltr t
  | .mcrPmccfiltr cond t => .cp false cond Enc32.pmccfiltr t
  | .mrcPmevcntr cond n t => .cp true cond (Enc32.pmevcntr n) t
  | .mcrPmevcntr cond n t => .cp false cond (Enc32.pmevcntr n) t
  | .mrcPmevtyper cond n t => .cp true cond (Enc32.pmevtyper n) t
  | .mcrPmevtyper cond n t => .cp false cond (Enc32.pmevtyper n) t
  | .mrrcDbgdrar cond t t2 => .cp64 true cond Enc64.dbgdrar t t2
  | .mrrcDbgdsar cond t t2 => .cp64 true cond Enc64.dbgdsar t t2
  | .mrrcPmccntr cond t t2 => .cp64 true cond Enc64.pmccntr t t2
  | .mcrrPmccntr cond t t2 => .cp64 false cond Enc64.pmccntr t t2
  | .ldcDbgdtrtxint cond p u w rn imm8 => .ldst true cond p u w rn imm8
  | .stcDbgdtrrxint cond p u w rn imm8 => .ldst false cond p u w rn imm8

/-- The word of an instruction. -/
def encode (i : Instr) : Word32 := i.form.word

/-- Whether the instruction is an A64 one. -/
def Instr.isA64 (i : Instr) : Bool :=
  match i.form with
  | .a64 _ _ _ => true
  | _ => false

/-- The instruction set that a word of the instruction belongs to; every AArch32 one is also a T32 word when its
condition field is 0b1110. -/
def Instr.instrSet (i : Instr) : InstrSet := if i.isA64 then .a64 else .a32

/-- The bytes of a word, at rising addresses. -/
def bytesOfWord (isa : InstrSet) (w : Word32) : List Byte :=
  match isa with
  | .t32 => [w.extractLsb' 16 8, w.extractLsb' 24 8, w.extractLsb' 0 8, w.extractLsb' 8 8]
  | _ => [w.extractLsb' 0 8, w.extractLsb' 8 8, w.extractLsb' 16 8, w.extractLsb' 24 8]

/-- The bytes of an instruction, at rising addresses. -/
def encodeBytes (i : Instr) : List Byte := bytesOfWord i.instrSet (encode i)

/-! ### What the host asks -/

/-- The word that the table's numbering of bits gives: `nbits` bits of `w`, zero above. -/
def tableWord (nbits w : Nat) : Word32 := BitVec.ofNat 32 (w % 2 ^ nbits)

/-- The instruction set of a table word: the A64 rows have 0b010 in bits [27:25], the A32 rows 0b110 or 0b111. -/
def tableSet (w : Word32) : InstrSet := if w.extractLsb' 25 3 = 0b010 then .a64 else .a32

/-- The instruction that the decoder reads from the bytes of a table word. -/
def decodeTableWord (nbits w : Nat) : Option Instr :=
  let word := tableWord nbits w
  match decode (tableSet word) (bytesOfWord (tableSet word) word) with
  | .instr i => some i
  | _ => none

end Sys2Proof
end

