-- ==== Sys2Proof/Machine/State.lean ====
section
/-! DEFINITION. The state of the machine as plain data (10_state.md; INVENTORY.md lists every piece with its rule and
reset value), the reasons a step can stop, and the state after reset (70_reset_and_hazards.md R260 to R268). -/

namespace Sys2Proof.Machine

/-- The Exception levels (60_exceptions.md R220). -/
inductive EL where
  | el0
  | el1
  | el2
  | el3
  deriving DecidableEq, Repr

/-- PSTATE: the fields that 10_state.md R36 lists, and T and IT of AArch32 (60_exceptions.md R231). -/
structure PState where
  n : Bool
  z : Bool
  c : Bool
  v : Bool
  tco : Bool
  dit : Bool
  uao : Bool
  pan : Bool
  ss : Bool
  il : Bool
  ssbs : Bool
  btype : BitVec 2
  d : Bool
  a : Bool
  i : Bool
  f : Bool
  /-- The Execution state: false AArch64, true AArch32. -/
  nRW : Bool
  el : EL
  sp : Bool
  /-- AArch32 only: T32 instructions (notes/assumptions 6). -/
  thumb : Bool
  /-- AArch32 only: the IT state, bits [7:4] the condition (notes/assumptions 9). -/
  it : BitVec 8
  deriving DecidableEq, Repr

/-- The state inputs of the rules (00_scope.md sections 4 and 5; 10_state.md R46). -/
structure Inputs where
  el1A32 : Bool
  el2A32 : Bool
  el3A32 : Bool
  halted : Bool
  haltingAllowed : Bool
  /-- ExternalSecureNoninvasiveDebugEnabled() (42_pmu_controls.md R177). -/
  extDebugEnabled : Bool
  /-- Another PE of the same level 1 affinity has MTPMU disabled (42_pmu_controls.md R180). -/
  siblingMtpmuOff : Bool
  deriving DecidableEq, Repr

/-- MDCR_EL2 and the control registers that the rules read (10_state.md R10, R37 to R42). -/
structure Controls where
  mdcrEl2 : Word
  hcrEl2 : Word
  scrEl3 : Word
  mdcrEl3 : Word
  hdfgrtrEl2 : Word
  hdfgwtrEl2 : Word
  hstrEl2 : Word
  vncrEl2 : Word
  sctlrEl1 : Word
  sctlrEl2 : Word
  sdcr : Word32
  deriving DecidableEq, Repr

/-- The exception registers of one Exception level (10_state.md R43). -/
structure ExcBank where
  esr : Word
  elr : Word
  spsr : Word
  vbar : Word
  deriving DecidableEq, Repr

/-- The exception registers (10_state.md R43; FAR_EL2 and HPFAR_EL2 by 60_exceptions.md R241). -/
structure ExcRegs where
  el1 : ExcBank
  el2 : ExcBank
  el3 : ExcBank
  farEl2 : Word
  hpfarEl2 : Word
  deriving DecidableEq, Repr

/-- The debug registers of 41_debug_traps.md. The AArch32 names are views of these (notes/assumptions 14). -/
structure DebugRegs where
  mdccsrEl0 : Word
  mdccintEl1 : Word
  osdtrrxEl1 : Word
  osdtrtxEl1 : Word
  dtrRx : Word32
  dtrTx : Word32
  rxFull : Bool
  mdscrEl1 : Word
  oseccrEl1 : Word
  bvr : Vector Word 16
  bcr : Vector Word 16
  wvr : Vector Word 16
  wcr : Vector Word 16
  claimSet : Word
  claimClr : Word
  dbgauthstatus : Word
  mdrar : Word
  oslsr : Word
  osdlr : Word
  dbgprcr : Word
  edscr : Word32
  dbgdidr : Word32
  dbgwfar : Word32
  dbgvcr : Word32
  dbgdevid : Word32
  dbgdevid1 : Word32
  dbgdevid2 : Word32
  dbgdsar : Word
  deriving DecidableEq, Repr

/-- The Performance Monitors registers (10_state.md R41, R42, R45; 42_pmu_controls.md). -/
structure PmuRegs where
  pmcr : Word
  pmcnten : Word
  pmovs : Word
  pminten : Word
  pmselr : Word
  pmceid0 : Word
  pmceid1 : Word
  pmccntr : Word
  pmccfiltr : Word
  pmuserenr : Word
  pmmir : Word
  evcntr : Vector Word 31
  evtyper : Vector Word 31
  deriving DecidableEq, Repr

/-- The Statistical Profiling and trace filter registers (10_state.md R47; 43_spe_trace.md). -/
structure SpeRegs where
  pmscrEl1 : Word
  pmscrEl2 : Word
  pmsicr : Word
  pmsirr : Word
  pmsfcr : Word
  pmsevfr : Word
  pmslatfr : Word
  pmsidr : Word
  pmblimitr : Word
  pmbptr : Word
  pmbsr : Word
  pmbidr : Word
  trfcrEl1 : Word
  trfcrEl2 : Word
  deriving DecidableEq, Repr

/-- The debug exception classes that TDE routes (60_exceptions.md R235). -/
inductive DebugException where
  | breakpoint
  /-- `isv`: EX is valid; `ex`: a Load-Exclusive instruction was stepped. -/
  | softwareStep (isv ex : Bool)
  | watchpoint (vncr cm wnr : Bool)
  /-- BKPT in AArch32 state; `wide`: the 32-bit A32 form. -/
  | bkpt (comment : BitVec 16) (wide : Bool)
  | vectorCatch
  /-- BRK in AArch64 state. -/
  | brk (imm : BitVec 16)
  deriving DecidableEq, Repr

/-- The PE that an event of a counter occurs on (70_reset_and_hazards.md R277; notes/assumptions 26). -/
inductive EventSource where
  | thisPE
  /-- Another PE "with the same affinity at level 1 and above as this PE". -/
  | affinityPE
  deriving DecidableEq, Repr

/-- What the environment can do to the PE between two instructions (notes/assumptions 26). -/
inductive Event where
  /-- A debug exception is generated at the current Exception level (41_debug_traps.md R105). -/
  | debugException (e : DebugException)
  /-- An exception return from the current Exception level (60_exceptions.md R242). -/
  | exceptionReturn
  | warmReset
  | coldReset
  /-- The event that event counter `n` counts occurs once, on the PE `source` (70_reset_and_hazards.md R277), and its
  filter, MDCR_EL3.SPME and Debug state let it count (42_pmu_controls.md section 5; notes/assumptions 26). -/
  | counterEvent (n : Nat) (source : EventSource)
  /-- One cycle for PMCCNTR_EL0, which its filter, MDCR_EL3.SPME and Debug state let count (42_pmu_controls.md R177, R178;
  notes/assumptions 26). -/
  | cycle
  | setHalted (b : Bool)
  | setExternalDebug (b : Bool)
  | setSiblingMtpmu (off : Bool)
  deriving DecidableEq, Repr

/-- The machine. -/
structure State where
  /-- The implementation parameters; no step changes them (notes/assumptions 1). -/
  cfg : Config
  x : Vector Word 31
  pc : Word
  ps : PState
  inp : Inputs
  ctl : Controls
  exc : ExcRegs
  dbg : DebugRegs
  pmu : PmuRegs
  spe : SpeRegs
  /-- Memory: (address, byte), addresses rising, no byte 0 listed (notes/assumptions 5). -/
  mem : List Host.Cell
  /-- The model's own: inputs that wait, oldest first (notes/assumptions 26). -/
  events : List Event
  /-- The model's own: steps taken, which names the free values of this step (notes/assumptions 2). -/
  draws : Nat
  deriving DecidableEq, Repr

/-- Why the machine stops. -/
inductive Fault where
  /-- The step: the pc is not aligned for the instruction set (20_memory.md R55). Safe: the spec gives no effect for
  such a fetch, and nothing runs (notes/assumptions 6). -/
  | misalignedFetch (pc : Word)
  deriving DecidableEq, Repr

/-- Why the model gives no next state. -/
inductive Refusal where
  /-- `exec`: the instruction has no meaning in the model. Safe. No arm answers it. -/
  | notModelled (mnemonic : String)
  /-- The step: "Every other instruction word is outside this spec." (30_encoding.md R71). Safe: nothing runs. -/
  | encodingOutsideSpec (word : Word32)
  /-- The step: an IMPLEMENTATION DEFINED register of TDOSA_extra_registers was reached without a trap
  (41_debug_traps.md R103); what it holds is not given. Safe: nothing runs (notes/assumptions 34). -/
  | implementationDefinedRegister (word : Word32)
  /-- An exception return with an illegal SPSR (60_exceptions.md R242 names the event and gives no effect). Safe:
  nothing runs (notes/assumptions 25). -/
  | illegalExceptionReturn (spsr : Word)
  /-- An exception return at EL0 or in AArch32 state, for which the spec gives no rule (60_exceptions.md R242,
  R243). Safe: nothing runs (notes/assumptions 25). -/
  | exceptionReturnOutsideSpec
  deriving DecidableEq, Repr

/-- PSTATE right after a reset (70_reset_and_hazards.md R260, R268; notes/assumptions 4). -/
def PState.reset (el : EL) (a32 : Bool) : PState where
  n := false
  z := false
  c := false
  v := false
  tco := false
  dit := false
  uao := false
  pan := false
  ss := false
  il := false
  ssbs := false
  btype := 0
  d := false
  a := false
  i := false
  f := false
  nRW := a32
  el := el
  sp := false
  thumb := false
  it := 0

/-- "This field resets to the highest implemented Exception Level." (70_reset_and_hazards.md R268). -/
def resetEL (c : Config) : EL := if c.haveEL3 then .el3 else if c.haveEL2 then .el2 else .el1

/-- All exception registers of a level UNKNOWN, named as zero (notes/assumptions 3). -/
def ExcBank.zero : ExcBank where
  esr := 0
  elr := 0
  spsr := 0
  vbar := 0

/-- MDCR_EL2 right after a Cold reset: HPMN = PMCR_N, MTPME = 1 where it exists, HCCD = HPMD = 0, and zero for every
UNKNOWN field (70_reset_and_hazards.md R261 to R263; notes/assumptions 3). -/
def mdcrReset (c : Config) : Word :=
  (if c.havePMUv3 && c.haveEL2 then c.pmcrN.setWidth 64 else 0)
    ||| (if c.haveMTPMU && !c.haveEL3 && c.haveEL2 then 0x10000000 else 0)

/-- The machine with parameters `c` right after a Cold reset. The spec gives no value after reset to the inputs
HaltingAllowed(), ExternalSecureNoninvasiveDebugEnabled() and the MTPMU state of another PE: false, the model's choice
(notes/assumptions 4). -/
def State.resetWith (c : Config) : State where
  cfg := c
  x := Vector.replicate 31 0
  pc := c.resetPc
  ps := PState.reset (resetEL c) (!c.resetIntoAArch64)
  inp := {
    el1A32 := !c.resetIntoAArch64
    el2A32 := !c.resetIntoAArch64
    el3A32 := !c.resetIntoAArch64
    halted := false
    haltingAllowed := false
    extDebugEnabled := false
    siblingMtpmuOff := false }
  ctl := {
    mdcrEl2 := mdcrReset c
    hcrEl2 := 0
    scrEl3 := 0
    mdcrEl3 := 0
    hdfgrtrEl2 := 0
    hdfgwtrEl2 := 0
    hstrEl2 := 0
    vncrEl2 := 0
    sctlrEl1 := 0
    sctlrEl2 := 0
    sdcr := 0 }
  exc := {
    el1 := ExcBank.zero
    el2 := ExcBank.zero
    el3 := ExcBank.zero
    farEl2 := 0
    hpfarEl2 := 0 }
  dbg := {
    mdccsrEl0 := 0
    mdccintEl1 := 0
    osdtrrxEl1 := 0
    osdtrtxEl1 := 0
    dtrRx := 0
    dtrTx := 0
    rxFull := false
    mdscrEl1 := 0
    oseccrEl1 := 0
    bvr := Vector.replicate 16 0
    bcr := Vector.replicate 16 0
    wvr := Vector.replicate 16 0
    wcr := Vector.replicate 16 0
    claimSet := 0
    claimClr := 0
    dbgauthstatus := 0
    mdrar := 0
    oslsr := 2
    osdlr := 0
    dbgprcr := 0
    edscr := 0
    dbgdidr := 0
    dbgwfar := 0
    dbgvcr := 0
    dbgdevid := 0
    dbgdevid1 := 0
    dbgdevid2 := 0
    dbgdsar := 0 }
  pmu := {
    pmcr := c.pmcrN.setWidth 64 <<< 11
    pmcnten := 0
    pmovs := 0
    pminten := 0
    pmselr := 0
    pmceid0 := 0
    pmceid1 := 0
    pmccntr := 0
    pmccfiltr := 0
    pmuserenr := 0
    pmmir := 0
    evcntr := Vector.replicate 31 0
    evtyper := Vector.replicate 31 0 }
  spe := {
    pmscrEl1 := 0
    pmscrEl2 := 0
    pmsicr := 0
    pmsirr := 0
    pmsfcr := 0
    pmsevfr := 0
    pmslatfr := 0
    pmsidr := 0
    pmblimitr := 0
    pmbptr := 0
    pmbsr := 0
    pmbidr := 0
    trfcrEl1 := 0
    trfcrEl2 := 0 }
  mem := []
  events := []
  draws := 0

/-- The machine right after reset, in configuration K1 (notes/assumptions 1). -/
def State.reset : State := State.resetWith Config.k1

end Sys2Proof.Machine
end

