-- ==== Sys2Proof/Machine/Ops.lean ====
section
/-! DEFINITION. The named operations: bits, memory, general registers, free values, the presence of features and the
Effective values (10_state.md sections 1 and 2), and TAKING AN EXCEPTION and returning from one (60_exceptions.md
section 6). -/

namespace Sys2Proof.Machine

/-! ### Vectors of registers -/

/-- Register `i` of a bank; a number outside the bank reads as zero. -/
def vget {n : Nat} (v : Vector Word n) (i : Nat) : Word := v[i]?.getD 0

/-- The bank with register `i` replaced; a number outside the bank changes nothing. -/
def vset {n : Nat} (v : Vector Word n) (i : Nat) (w : Word) : Vector Word n := v.setIfInBounds i w

/-! ### Free values (92_eei_decisions.md D6; notes/assumptions 2) -/

/-- The value drawn at a site in this step. -/
def State.free (s : State) (site : DrawSite) : Word := Config.freeValue s.draws site

/-- A value drawn from 0 .. k - 1 (0 where k is 0). -/
def State.freeBelow (s : State) (site : DrawSite) (k : Nat) : Nat := if k = 0 then 0 else (s.free site).toNat % k

/-! ### Memory (notes/assumptions 5) -/

/-- What a byte that memory does not list reads as (notes/assumptions 5, DESIGN CHOICE). -/
def unlistedByte : Byte := 0

/-- One byte of a cell list. -/
def Memory.read : List Host.Cell → Nat → Byte
  | [], _ => unlistedByte
  | (b, v) :: rest, a => if a = b then v else Memory.read rest a

/-- A cell in front of a list, unless it holds what an unlisted byte reads as. -/
def Memory.cons (a : Nat) (v : Byte) (rest : List Host.Cell) : List Host.Cell :=
  if v = unlistedByte then rest else (a, v) :: rest

/-- The list after a write of one byte, in canonical form. -/
def Memory.write : List Host.Cell → Nat → Byte → List Host.Cell
  | [], a, v => Memory.cons a v []
  | (b, w) :: rest, a, v =>
    if a < b then Memory.cons a v ((b, w) :: rest)
    else if a = b then Memory.cons a v rest
    else (b, w) :: Memory.write rest a v

/-- Addresses strictly rise from `lo`, and no cell holds what an unlisted byte reads as. -/
def Memory.wfFrom : Nat → List Host.Cell → Bool
  | _, [] => true
  | lo, (a, v) :: rest => decide (lo ≤ a) && decide (a < 2 ^ 64) && decide (v ≠ unlistedByte) && Memory.wfFrom (a + 1) rest

/-- The canonical form of memory. -/
def Memory.wf (m : List Host.Cell) : Bool := Memory.wfFrom 0 m

/-- One byte of memory. Addresses are 64 bits and wrap. -/
def State.byteAt (s : State) (a : Word) : Byte := Memory.read s.mem a.toNat

/-- The state after a write of one byte. -/
def State.setByte (s : State) (a : Word) (v : Byte) : State := { s with mem := Memory.write s.mem a.toNat v }

/-- The state after a write of bytes at rising addresses. -/
def State.setBytes (s : State) (a : Word) : List Byte → State
  | [] => s
  | v :: rest => (s.setByte a v).setBytes (a + 1) rest

/-- `k` bytes at rising addresses. -/
def State.bytesAt (s : State) (a : Word) : Nat → List Byte
  | 0 => []
  | k + 1 => s.byteAt a :: s.bytesAt (a + 1) k

/-- Bytes as a number, the first one least significant. -/
def leNat : List Byte → Nat
  | [] => 0
  | b :: rest => b.toNat + 256 * leNat rest

/-- The `k` low bytes of a number, least significant first. -/
def leBytes (v : Nat) : Nat → List Byte
  | 0 => []
  | k + 1 => BitVec.ofNat 8 v :: leBytes (v / 256) k

/-- A load of `k` bytes in the byte order given (20_memory.md R54; notes/assumptions 7). -/
def State.load (s : State) (big : Bool) (a : Word) (k : Nat) : Nat :=
  leNat (if big then (s.bytesAt a k).reverse else s.bytesAt a k)

/-- A store of `k` bytes in the byte order given (20_memory.md R54; notes/assumptions 7). -/
def State.store (s : State) (big : Bool) (a : Word) (k v : Nat) : State :=
  s.setBytes a (if big then (leBytes v k).reverse else leBytes v k)

/-! ### General registers (10_state.md R34) -/

/-- Xt as a source: number 31 is the zero register (30_encoding.md R63). -/
def State.getX (s : State) (t : XReg) : Word := vget s.x t.toNat

/-- Xt as a destination: number 31 discards the value (30_encoding.md R63). -/
def State.setX (s : State) (t : XReg) (v : Word) : State := { s with x := vset s.x t.toNat v }

/-- Rt of AArch32 state: the low half of Xt; R15 is a free value at the site given (notes/assumptions 10). -/
def State.getR (s : State) (site : DrawSite) (t : RReg) : Word32 :=
  if t = 15 then low32 (s.free site) else low32 (vget s.x t.toNat)

/-- A write of Rt in AArch32 state: the low half of Xt, the high half kept; R15 discards it (notes/assumptions 10). -/
def State.setR (s : State) (t : RReg) (v : Word32) : State :=
  if t = 15 then s else { s with x := vset s.x t.toNat (withLow32 (vget s.x t.toNat) v) }

/-! ### Features and levels -/

/-- The number of an Exception level. -/
def EL.num : EL → Nat
  | .el0 => 0
  | .el1 => 1
  | .el2 => 2
  | .el3 => 3

/-- HaveEL (00_scope.md section 5). -/
def State.haveEL (s : State) : EL → Bool
  | .el0 => true
  | .el1 => true
  | .el2 => s.cfg.haveEL2
  | .el3 => s.cfg.haveEL3

/-- SCR_EL3.{EEL2, NS} == {1, 0}: "EL2 is using AArch64 and in Secure state" (10_state.md R38; without EL3 the fields do
not exist: notes/assumptions 22). -/
def State.secureEL2 (s : State) : Bool :=
  s.cfg.haveEL3 && s.cfg.haveSecEL2 && s.ctl.scrEl3.getLsbD 18 && !s.ctl.scrEl3.getLsbD 0

/-- EL2 is using AArch32: the input says so, and R38 does not say that it is using AArch64 (10_state.md R38). -/
def State.el2A32 (s : State) : Bool := s.inp.el2A32 && !s.secureEL2

/-- ELUsingAArch32 (00_scope.md section 5); EL0 is using what PSTATE says while it runs. -/
def State.elA32 (s : State) : EL → Bool
  | .el0 => s.ps.nRW
  | .el1 => s.inp.el1A32
  | .el2 => s.el2A32
  | .el3 => s.inp.el3A32

/-- SCR_EL3.NS, and without EL3 what the implementation says (10_state.md R38; notes/assumptions 22). -/
def State.nonSecure (s : State) : Bool := if s.cfg.haveEL3 then s.ctl.scrEl3.getLsbD 0 else s.cfg.noEl3NonSecure

/-- Secure EL2 is enabled: SCR_EL3.EEL2 where ARMv8.4-SecEL2 is implemented (10_state.md R38). -/
def State.eel2 (s : State) : Bool := s.cfg.haveSecEL2 && (!s.cfg.haveEL3 || s.ctl.scrEl3.getLsbD 18)

/-- EL2Enabled() (92_eei_decisions.md D1). -/
def State.el2Enabled (s : State) : Bool :=
  s.cfg.haveEL2 && (!s.cfg.haveEL3 || s.ctl.scrEl3.getLsbD 0 || (s.cfg.haveSecEL2 && s.ctl.scrEl3.getLsbD 18))

/-- A64EL2 of 41_debug_traps.md. -/
def State.a64EL2 (s : State) : Bool := s.el2Enabled && !s.el2A32

/-- A32EL2 of 41_debug_traps.md. -/
def State.a32EL2 (s : State) : Bool := s.el2Enabled && s.el2A32

/-- A64EL3 of 41_debug_traps.md. -/
def State.a64EL3 (s : State) : Bool := s.cfg.haveEL3 && !s.inp.el3A32

/-- EL3 is implemented and using AArch32. -/
def State.a32EL3 (s : State) : Bool := s.cfg.haveEL3 && s.inp.el3A32

/-! ### HCR_EL2 (10_state.md R37; HCR is the same storage) -/

def State.tge (s : State) : Bool := s.ctl.hcrEl2.getLsbD 27
def State.e2h (s : State) : Bool := s.cfg.haveVHE && s.ctl.hcrEl2.getLsbD 34
def State.nv (s : State) : Bool := s.cfg.haveNV && s.ctl.hcrEl2.getLsbD 42
def State.nv1 (s : State) : Bool := s.cfg.haveNV && s.ctl.hcrEl2.getLsbD 43
def State.nv2 (s : State) : Bool := s.cfg.haveNV2 && s.ctl.hcrEl2.getLsbD 45

/-! ### The fields of MDCR_EL2 (10_state.md R11 to R32) -/

/-- Every bit that some implementation implements (10_state.md R12). -/
def allFields : Word := 0x1C8A7FFF

/-- The positions of the implemented fields (10_state.md R11, R12). -/
def implMask (c : Config) : Word :=
  0xF00#64
    ||| (if c.haveMTPMU && !c.haveEL3 then 0x10000000#64 else 0)
    ||| (if c.haveFGT then 0x8000000#64 else 0)
    ||| (if c.havePMUv3p5 then 0x4800000#64 else 0)
    ||| (if c.haveTraceFilt then 0x80000#64 else 0)
    ||| (if c.havePMUv3p1 then 0x20000#64 else 0)
    ||| (if c.haveSPE then 0x7000#64 else 0)
    ||| (if c.havePMUv3 then 0xFF#64 else 0)

/-- The stored value of MDCR_EL2 as the rules use it: a bit outside the mask has no effect (10_state.md R13). -/
def State.mdcr (s : State) : Word := s.ctl.mdcrEl2 &&& implMask s.cfg

def State.mtpme (s : State) : Bool := s.mdcr.getLsbD 28
def State.tdcc (s : State) : Bool := s.mdcr.getLsbD 27
def State.hlp (s : State) : Bool := s.mdcr.getLsbD 26
def State.hccd (s : State) : Bool := s.mdcr.getLsbD 23
def State.ttrf (s : State) : Bool := s.mdcr.getLsbD 19
def State.hpmd (s : State) : Bool := s.mdcr.getLsbD 17
def State.tpms (s : State) : Bool := s.mdcr.getLsbD 14
def State.e2pb (s : State) : BitVec 2 := s.mdcr.extractLsb' 12 2
def State.tdra (s : State) : Bool := s.mdcr.getLsbD 11
def State.tdosa (s : State) : Bool := s.mdcr.getLsbD 10
def State.tda (s : State) : Bool := s.mdcr.getLsbD 9
def State.tde (s : State) : Bool := s.mdcr.getLsbD 8
def State.hpme (s : State) : Bool := s.mdcr.getLsbD 7
def State.tpm (s : State) : Bool := s.mdcr.getLsbD 6
def State.tpmcr (s : State) : Bool := s.mdcr.getLsbD 5
def State.hpmn (s : State) : Nat := (s.mdcr.extractLsb' 0 5).toNat

/-- Effective TDE (10_state.md R30). -/
def State.effTde (s : State) : Bool := s.tde || (s.el2Enabled && s.tge)
/-- Effective TDRA (10_state.md R31). -/
def State.effTdra (s : State) : Bool := s.tdra || s.effTde
/-- Effective TDOSA (10_state.md R31). -/
def State.effTdosa (s : State) : Bool := s.tdosa || s.effTde
/-- Effective TDA (10_state.md R31). -/
def State.effTda (s : State) : Bool := s.tda || s.effTde

/-! ### MDCR_EL3 and SDCR (10_state.md R39; notes/assumptions 21) -/

def State.tdcc3 (s : State) : Bool := s.cfg.haveFGT && s.ctl.mdcrEl3.getLsbD 27
def State.ttrf3 (s : State) : Bool := s.cfg.haveTraceFilt && s.ctl.mdcrEl3.getLsbD 19
def State.nspb (s : State) : BitVec 2 := s.ctl.mdcrEl3.extractLsb' 12 2
def State.tdosa3 (s : State) : Bool := s.ctl.mdcrEl3.getLsbD 10
def State.tda3 (s : State) : Bool := s.ctl.mdcrEl3.getLsbD 9
def State.tpm3 (s : State) : Bool := s.cfg.havePMUv3 && s.ctl.mdcrEl3.getLsbD 6
def State.sdcrTdcc (s : State) : Bool := s.cfg.haveFGT && s.ctl.sdcr.getLsbD 27
def State.sdcrTtrf (s : State) : Bool := s.cfg.haveTraceFilt && s.ctl.sdcr.getLsbD 19

/-! ### Other controls -/

/-- MDSCR_EL1.TDCC, which is DBGDSCRext.UDCCdis (10_state.md R42; notes/assumptions 21). -/
def State.udccDis (s : State) : Bool := s.dbg.mdscrEl1.getLsbD 12

/-- HSTR_EL2.T<k> and HSTR.T<k>, one storage (10_state.md R42; notes/assumptions 21); T1 is taken as bit 1 and T9 as
bit 9, positions that the spec does not number (PRESUMED, notes/assumptions 20). -/
def State.hstrT (s : State) (k : Nat) : Bool := s.ctl.hstrEl2.getLsbD k

/-- The fine-grained traps are in force: ARMv8.6-FGT, and SCR_EL3.FGTEn where EL3 is implemented (10_state.md R40). -/
def State.fgtOn (s : State) : Bool := s.cfg.haveFGT && (!s.cfg.haveEL3 || s.ctl.scrEl3.getLsbD 27)

/-- Bit `b` of HDFGRTR_EL2 (`read`) or HDFGWTR_EL2 (10_state.md R40; bit numbers: notes/assumptions 20). -/
def State.fgtBit (s : State) (read : Bool) (b : Nat) : Bool :=
  if read then s.ctl.hdfgrtrEl2.getLsbD b else s.ctl.hdfgwtrEl2.getLsbD b

/-- FGT1 (42_pmu_controls.md): the EL1 form of a fine-grained trap. -/
def State.fgt1 (s : State) (read : Bool) (b : Nat) : Bool := s.a64EL2 && s.fgtOn && s.fgtBit read b

/-- FGT0 (42_pmu_controls.md): the EL0 form of a fine-grained trap. -/
def State.fgt0 (s : State) (read : Bool) (b : Nat) : Bool :=
  s.el2Enabled && !s.inp.el1A32 && !(s.e2h && s.tge) && s.fgtOn && s.fgtBit read b

/-! ### The program counter (10_state.md R35) -/

/-- The IT state after one T32 instruction (notes/assumptions 9). -/
def itAdvance (it : BitVec 8) : BitVec 8 :=
  if it.extractLsb' 0 3 = 0 then 0 else it.extractLsb' 5 3 ++ (it.extractLsb' 0 5 <<< 1)

/-- An instruction completes: the pc moves past it. Every instruction of the table has 4 bytes (30_encoding.md R67). -/
def State.advance (s : State) : State :=
  { s with pc := s.pc + 4, ps := { s.ps with it := if s.ps.thumb then itAdvance s.ps.it else s.ps.it } }

/-! ### Taking an exception (60_exceptions.md section 6) -/

/-- PSTATE as a 64-bit value (60_exceptions.md R241): M[4] nRW, M[3:2] EL, M[0] SP. In AArch32 state T is bit [5] and
IT bits [26:25] and [15:10], in place of TCO, SSBS and BTYPE (notes/assumptions 23). -/
def PState.toSpsr (p : PState) : Word :=
  let top : BitVec 5 := BitVec.ofBool p.n ++ BitVec.ofBool p.z ++ BitVec.ofBool p.c ++ BitVec.ofBool p.v ++ 0#1
  let mid : BitVec 6 :=
    (if p.nRW then p.it.extractLsb' 0 2 else 0#1 ++ BitVec.ofBool p.tco) ++ BitVec.ofBool p.dit
      ++ BitVec.ofBool p.uao ++ BitVec.ofBool p.pan ++ BitVec.ofBool p.ss
  let low : BitVec 6 := if p.nRW then p.it.extractLsb' 2 6 else 0#3 ++ BitVec.ofBool p.ssbs ++ p.btype
  let mask : BitVec 4 := BitVec.ofBool p.d ++ BitVec.ofBool p.a ++ BitVec.ofBool p.i ++ BitVec.ofBool p.f
  let mode : BitVec 6 :=
    BitVec.ofBool (p.nRW && p.thumb) ++ BitVec.ofBool p.nRW ++ BitVec.ofNat 2 p.el.num ++ 0#1 ++ BitVec.ofBool p.sp
  0#32 ++ top ++ mid ++ BitVec.ofBool p.il ++ 0#4 ++ low ++ mask ++ mode

/-- ESR(ec, 1, iss) (60_exceptions.md R222). -/
def esrValue (ec : BitVec 6) (il : Bool) (iss : BitVec 25) : Word := (ec ++ BitVec.ofBool il ++ iss).setWidth 64

/-- The exception registers of a level; those of EL0 do not exist, and no exception is taken to it. -/
def State.bank (s : State) : EL → ExcBank
  | .el0 => s.exc.el1
  | .el1 => s.exc.el1
  | .el2 => s.exc.el2
  | .el3 => s.exc.el3

/-- The state with the exception registers of a level replaced. -/
def State.setBank (s : State) (T : EL) (b : ExcBank) : State :=
  match T with
  | .el0 => s
  | .el1 => { s with exc := { s.exc with el1 := b } }
  | .el2 => { s with exc := { s.exc with el2 := b } }
  | .el3 => { s with exc := { s.exc with el3 := b } }

/-- The three registers that an entry to `T` writes: SPSR, ELR and ESR (60_exceptions.md R241). FAR_EL2 and HPFAR_EL2
are free values after an entry to EL2 (R241: "they are UNKNOWN after a trap"). -/
def State.saveFor (s : State) (T : EL) (esr : Word) : State :=
  let saved := s.setBank T { s.bank T with spsr := s.ps.toSpsr, elr := s.pc, esr := esr }
  if T = .el2 then
    { saved with exc := { saved.exc with farEl2 := s.free (.faultAddress 0), hpfarEl2 := s.free (.faultAddress 1) } }
  else saved

/-- Whether the Exception level immediately below `T` is using AArch32 (60_exceptions.md R241; for EL3 that is EL2
where it is enabled: notes/assumptions 23). -/
def State.belowA32 (s : State) : EL → Bool
  | .el0 => false
  | .el1 => s.ps.nRW
  | .el2 => s.inp.el1A32
  | .el3 => if s.el2Enabled then s.el2A32 else s.inp.el1A32

/-- The vector offset of a synchronous exception taken from the current level to `T` (60_exceptions.md R241). -/
def State.vectorOffset (s : State) (T : EL) : Word :=
  if s.ps.el = T then (if s.ps.sp then 0x200 else 0)
  else if s.belowA32 T then 0x600 else 0x400

/-- VBAR<63:11>:Zeros(11) (60_exceptions.md R241). -/
def vectorBase (vbar : Word) : Word := vbar &&& 0xFFFFFFFFFFFFF800

/-- TakeSync(T, esr, pc) of 60_exceptions.md R241: entry to a level that is using AArch64. -/
def State.takeSync (s : State) (T : EL) (esr : Word) : State :=
  { s.saveFor T esr with
    pc := vectorBase (s.bank T).vbar + s.vectorOffset T
    ps := { s.ps with
      el := T, nRW := false, sp := true, d := true, a := true, i := true, f := true, ss := false, il := false
      thumb := false, it := 0 } }

/-- An address of AArch32 state that the spec does not give (notes/assumptions 24). -/
def State.freePc (s : State) : Word := s.free .entryPc &&& 0xFFFFFFFC

/-- PSTATE after an entry to a level using AArch32: the level and the Execution state; what else changes the spec does
not give, and is free (60_exceptions.md R234, 92_eei_decisions.md D21; notes/assumptions 24). -/
def State.psForA32 (s : State) (T : EL) : PState :=
  let v := s.free .entryPstate
  { s.ps with
    el := T, nRW := true, a := v.getLsbD 0, i := v.getLsbD 1, f := v.getLsbD 2, thumb := v.getLsbD 3
    it := v.extractLsb' 8 8, ss := v.getLsbD 4, il := v.getLsbD 5 }

/-- Entry to Hyp mode (60_exceptions.md R234): HSR, ELR_hyp and SPSR_hyp are the EL2 registers, the vector is at
HVBAR + 0x14 from a lower level; from Hyp mode itself the vector is not given (notes/assumptions 24). That bits [4:0] of
HVBAR are taken as zero before 0x14 is added is the model's choice (notes/assumptions 24). -/
def State.takeHyp (s : State) (esr : Word) : State :=
  { s.saveFor .el2 esr with
    pc := if s.ps.el = .el2 then s.freePc else zext64 (low32 s.exc.el2.vbar &&& 0xFFFFFFE0) + 0x14
    ps := s.psForA32 .el2 }

/-- Entry to Undefined mode or Monitor mode of a level using AArch32: only the level, the Execution state and a free
vector (60_exceptions.md R226; 92_eei_decisions.md D21; notes/assumptions 24). -/
def State.takeMode (s : State) (T : EL) : State := { s with pc := s.freePc, ps := s.psForA32 T }

/-- TAKING AN EXCEPTION to level `T` with a syndrome, in whichever Execution state `T` is using
(60_exceptions.md R226, R227, R234, R235, R241). -/
def State.take (s : State) (T : EL) (esr : Word) : State :=
  if s.elA32 T then (if T = .el2 then s.takeHyp esr else s.takeMode T) else s.takeSync T esr

/-- UndefinedTarget (60_exceptions.md R226). -/
def State.undefinedTarget (s : State) : EL :=
  if s.ps.el = .el0 then (if s.el2Enabled && s.tge then .el2 else .el1) else s.ps.el

/-- The syndrome of an Undefined exception (60_exceptions.md R226). -/
def undefinedEsr : Word := esrValue 0 true 0

/-- `raise Undefined` (60_exceptions.md R226). -/
def State.takeUndefined (s : State) : State := s.take s.undefinedTarget undefinedEsr

/-- `raise SysTrap(T, ec, iss)` (60_exceptions.md R227, R240). -/
def State.takeTrap (s : State) (T : EL) (ec : BitVec 6) (iss : BitVec 25) : State := s.take T (esrValue ec true iss)

/-! ### Exception return (60_exceptions.md R242) -/

/-- PSTATE from an SPSR (60_exceptions.md R241 and R242; the AArch32 places of T and IT: notes/assumptions 23). A return
to AArch32 state sets BTYPE to 0 and keeps TCO and SSBS, the model's choice (notes/assumptions 23). -/
def PState.ofSpsr (p : PState) (v : Word) : PState :=
  let a32 := v.getLsbD 4
  { n := v.getLsbD 31
    z := v.getLsbD 30
    c := v.getLsbD 29
    v := v.getLsbD 28
    tco := if a32 then p.tco else v.getLsbD 25
    dit := v.getLsbD 24
    uao := v.getLsbD 23
    pan := v.getLsbD 22
    ss := v.getLsbD 21
    il := v.getLsbD 20
    ssbs := if a32 then p.ssbs else v.getLsbD 12
    btype := if a32 then 0 else v.extractLsb' 10 2
    d := v.getLsbD 9
    a := v.getLsbD 8
    i := v.getLsbD 7
    f := v.getLsbD 6
    nRW := a32
    el := match (v.extractLsb' 2 2).toNat with
      | 0 => .el0
      | 1 => .el1
      | 2 => .el2
      | _ => .el3
    sp := v.getLsbD 0
    thumb := a32 && v.getLsbD 5
    it := if a32 then v.extractLsb' 10 6 ++ v.extractLsb' 25 2 else 0 }

/-- The SPSR names a mode that an exception return from `T` may go to (60_exceptions.md R242; 93_implementation_defined.md
I19): M[3:0] is none of the reserved values (M[1] set, or EL0 with M[0] set), and its level exists and is not above `T`.
EL2 exists in Secure state only when it is enabled there (R220), and is then using AArch64 (10_state.md R38). Every other
return is allowed, to EL1 while HCR_EL2.TGE is 1 included (notes/assumptions 25). -/
def State.legalReturn (s : State) (T : EL) (v : Word) : Bool :=
  let p := PState.ofSpsr s.ps v
  !v.getLsbD 1 && s.haveEL p.el && decide (p.el.num ≤ T.num) && !(decide (p.el = .el0) && p.sp)
    && !(decide (p.el = .el2) && (!s.el2Enabled || (p.nRW && s.secureEL2)))

/-- The inputs with the use of AArch32 by a level set; EL0 uses what PSTATE says. -/
def Inputs.setA32 (inp : Inputs) (el : EL) (b : Bool) : Inputs :=
  match el with
  | .el0 => inp
  | .el1 => { inp with el1A32 := b }
  | .el2 => { inp with el2A32 := b }
  | .el3 => { inp with el3A32 := b }

/-- A value drawn for a register whose bits [63:32] are RES0 (10_state.md R43). -/
def State.freeLow (s : State) (site : DrawSite) : Word := s.free site &&& 0xFFFFFFFF

/-- The effect of an exception return from `T`: pc from ELR, PSTATE from SPSR, and then the three registers of `T` are
UNKNOWN, free values in the bits that are not RES0 (60_exceptions.md R242; 10_state.md R43). M[4] is copied to PSTATE.nRW
whatever the level used before, and the level returned to is using that state from then on (notes/assumptions 25). -/
def State.returnFrom (s : State) (T : EL) : State :=
  let b := s.bank T
  let p := PState.ofSpsr s.ps b.spsr
  { s.setBank T { b with
      esr := s.freeLow (.afterReturn 0), elr := s.free (.afterReturn 1), spsr := s.freeLow (.afterReturn 2) } with
    pc := b.elr
    ps := p
    inp := s.inp.setA32 p.el p.nRW }

/-- An exception return from the current level (60_exceptions.md R242): refused where the spec gives no effect
(notes/assumptions 25). -/
def exceptionReturn (s : State) : Host.Outcome State Fault Refusal :=
  if s.ps.el = .el0 ∨ s.ps.nRW then .refused .exceptionReturnOutsideSpec
  else if s.legalReturn s.ps.el (s.bank s.ps.el).spsr then .next (s.returnFrom s.ps.el)
  else .refused (.illegalExceptionReturn (s.bank s.ps.el).spsr)

/-! ### Small derived views -/

/-- A direct read of CurrentEL: bits [3:2]; "When the HCR_EL2.NV bit is 1, EL1 read accesses to the CurrentEL register
return the value of 0b10" (10_state.md R36; 40_access.md R87). -/
def State.currentEL (s : State) : Word :=
  BitVec.ofNat 64 (4 * (if s.ps.el = .el1 && s.nv then 2 else s.ps.el.num))

end Sys2Proof.Machine
end

