-- ==== Sys2Proof/Machine/Flags.lean ====
section
/-! DEFINITION. The condition of an AArch32 instruction (30_encoding.md R65). No instruction of the table writes a flag
(40_access.md R80), so there is no flag computation; the flags are only read, by the condition check. -/

namespace Sys2Proof.Machine

/-- Whether a condition holds of the flags (notes/assumptions 9). 0b1110 and 0b1111 always hold. -/
def conditionHolds (p : PState) (c : Cond) : Bool :=
  let base := match (c.extractLsb' 1 3).toNat with
    | 0 => p.z
    | 1 => p.c
    | 2 => p.n
    | 3 => p.v
    | 4 => p.c && !p.z
    | 5 => p.n == p.v
    | 6 => p.n == p.v && !p.z
    | _ => true
  if c.getLsbD 0 && (c.extractLsb' 1 3).toNat != 7 then !base else base

/-- The condition in force: the field of an A32 word; in T32 that of the IT block, 0b1110 outside one
(30_encoding.md R65; notes/assumptions 9). -/
def State.condInForce (s : State) (c : Cond) : Cond :=
  if s.ps.thumb then (if s.ps.it = 0 then 14 else s.ps.it.extractLsb' 4 4) else c

/-- The condition check of an instruction passes. -/
def State.condPassed (s : State) (c : Cond) : Bool := conditionHolds s.ps (s.condInForce c)

end Sys2Proof.Machine
end

