-- ==== Sys2Proof/Machine/Operands.lean ====
section
/-! DEFINITION. The operand forms: the syndrome of each instruction form (60_exceptions.md R228 to R233), the AArch64
view of an AArch32 register number, and the address of LDC and STC (41_debug_traps.md R136). -/

namespace Sys2Proof.Machine

/-! ### Syndromes -/

/-- ISS18 (60_exceptions.md R228). -/
def iss18 (e : SysEnc) (t : XReg) (read : Bool) : BitVec 25 :=
  0#3 ++ e.op0 ++ e.op2 ++ e.op1 ++ e.crn ++ t ++ e.crm ++ BitVec.ofBool read

/-- CV and COND as five bits (60_exceptions.md R231): from A32, CV is 1 and COND is 0b1110 for an unconditional
instruction, the condition for one that failed its check, and for one that passed either of the two; from T32 the
parameter `t32CvPolicy` decides (notes/assumptions 12). -/
def State.cvCond (s : State) (c : Cond) : BitVec 5 :=
  if s.ps.thumb then
    match s.cfg.t32CvPolicy with
    | .cv0 => 0#1 ++ (s.free .cond).extractLsb' 0 4
    | .cv1 => 1#1 ++ s.condInForce c
  else if c = 14 ∨ c = 15 then 1#1 ++ 14#4
  else if !s.condPassed c then 1#1 ++ c
  else if (s.free .cond).getLsbD 0 then 1#1 ++ 14#4 else 1#1 ++ c

/-- The AArch64 view of an AArch32 register number (60_exceptions.md R233): R0 to R12 are X0 to X12, and at EL0 R13 and
R14 are X13 and X14; at other levels those two are banked by a mode the model does not hold, a free value. R15 is 15 or,
where the instruction was UNPREDICTABLE, the view of a register usable at the level, a free value: at EL0 the view of one
of R0 to R14 (93_implementation_defined.md I16; notes/assumptions 11). -/
def State.regView (s : State) (site : DrawSite) (t : RReg) : BitVec 5 :=
  if t = 15 then
    (if (s.free site).getLsbD 63 then BitVec.ofNat 5 (s.freeBelow site (if s.ps.el = .el0 then 15 else 31)) else 15)
  else if t = 13 ∨ t = 14 then
    (if s.ps.el = .el0 then t.setWidth 5 else BitVec.ofNat 5 (s.freeBelow site 31))
  else t.setWidth 5

/-- ISS_MCR (60_exceptions.md R229). -/
def State.issMcr (s : State) (e : CpEnc) (c : Cond) (t : RReg) (read : Bool) : BitVec 25 :=
  s.cvCond c ++ e.opc2 ++ e.opc1 ++ e.crn ++ s.regView .rtView t ++ e.crm ++ BitVec.ofBool read

/-- ISS_MCRR (60_exceptions.md R230). -/
def State.issMcrr (s : State) (e : Cp64Enc) (c : Cond) (t t2 : RReg) (read : Bool) : BitVec 25 :=
  s.cvCond c ++ e.opc1 ++ 0#1 ++ s.regView .rt2View t2 ++ s.regView .rtView t ++ e.crm ++ BitVec.ofBool read

/-- The operands of LDC and STC. -/
structure MemOperand where
  p : Bool
  u : Bool
  w : Bool
  rn : RReg
  imm8 : BitVec 8
  deriving DecidableEq, Repr

/-- AM of a literal LDC (60_exceptions.md R232): 0b110 for {P, W} = {1, 0} and, in A32, 0b100 for {0, 0}. Every other
{P, W} would give a reserved value, which is not produced (93_implementation_defined.md I18): AM is then a free one of
the values that are not reserved (notes/assumptions 35). -/
def State.literalAm (s : State) (m : MemOperand) : BitVec 3 :=
  if m.p && !m.w then 6
  else if s.ps.thumb then 6
  else if !m.p && !m.w then 4
  else if (s.free (.literalForm 0)).getLsbD 0 then 6 else 4

/-- Rn, Offset and AM of the syndrome of LDC and STC (60_exceptions.md R232). In an immediate form AM is {0, P, W}. In
the literal form, an LDC with Rn = 15, AM[2] is 1, and Rn is UNKNOWN and Offset any value (93_implementation_defined.md
I18): free values (notes/assumptions 35). -/
def State.ldstFields (s : State) (load : Bool) (m : MemOperand) : BitVec 9 :=
  if load && decide (m.rn = 15) then
    (s.free .rtView).extractLsb' 0 5 ++ (s.free (.literalForm 1)).extractLsb' 0 1 ++ s.literalAm m
  else s.regView .rtView m.rn ++ BitVec.ofBool m.u ++ 0#1 ++ BitVec.ofBool m.p ++ BitVec.ofBool m.w

/-- ISS of LDC and STC (60_exceptions.md R232). -/
def State.issLdst (s : State) (load : Bool) (c : Cond) (m : MemOperand) : BitVec 25 :=
  s.cvCond c ++ m.imm8 ++ 0#2 ++ s.ldstFields load m ++ BitVec.ofBool load

/-! ### The address of LDC and STC (notes/assumptions 35) -/

/-- The base register: Rn, and for Rn = 15 the pc of the instruction plus 8 (A32) or 4 (T32), aligned to 4. -/
def State.memBase (s : State) (m : MemOperand) : Word32 :=
  if m.rn = 15 then (low32 s.pc + (if s.ps.thumb then 4 else 8)) &&& 0xFFFFFFFC else low32 (vget s.x m.rn.toNat)

/-- The base plus or minus imm8 * 4. -/
def State.memOffset (s : State) (m : MemOperand) : Word32 :=
  if m.u then s.memBase m + (m.imm8.setWidth 32 <<< 2) else s.memBase m - (m.imm8.setWidth 32 <<< 2)

/-- The address accessed: the offset address where P is set, else the base. -/
def State.memAddress (s : State) (m : MemOperand) : Word := zext64 (if m.p then s.memOffset m else s.memBase m)

/-- The base register after the access: the offset address where W is set. -/
def State.memWriteBack (s : State) (m : MemOperand) (v : Word32) : State := if m.w then s.setR m.rn v else s

/-- The byte order of data accesses in AArch32 state at the current level: SCTLR_EL1.E0E at EL0, SCTLR_EL1.EE at EL1,
SCTLR_EL2.EE at EL2 (20_memory.md R54; notes/assumptions 7). -/
def State.bigEndianData (s : State) : Bool :=
  match s.ps.el with
  | .el0 => s.ctl.sctlrEl1.getLsbD 24
  | .el1 => s.ctl.sctlrEl1.getLsbD 25
  | .el2 => s.ctl.sctlrEl2.getLsbD 25
  | .el3 => s.ctl.sctlrEl1.getLsbD 25

/-! ### NVMem (43_spe_trace.md, shorthand; notes/assumptions 36) -/

/-- The address of NVMem[off]: the base in VNCR_EL2 plus the offset. -/
def State.nvAddress (s : State) (off : Nat) : Word := s.ctl.vncrEl2 + BitVec.ofNat 64 off

/-- NVMem[off], a 64-bit load. -/
def State.nvRead (s : State) (off : Nat) : Word :=
  BitVec.ofNat 64 (s.load (s.ctl.sctlrEl2.getLsbD 25) (s.nvAddress off) 8)

/-- NVMem[off] := v, a 64-bit store. -/
def State.nvWrite (s : State) (off : Nat) (v : Word) : State :=
  s.store (s.ctl.sctlrEl2.getLsbD 25) (s.nvAddress off) 8 v.toNat

end Sys2Proof.Machine
end

