-- ==== Sys2Proof/Machine/Counters.lean ====
section
/-! DEFINITION. HPMN and the counting controls (42_pmu_controls.md sections 4 and 5): the partition point, which
counters are accessible, enabled and prohibited, how wide they are when they overflow, and the increment of a counter. -/

namespace Sys2Proof.Machine

/-- PMCR_N (00_scope.md section 4). -/
def State.pmcrN (s : State) : Nat := s.cfg.pmcrN.toNat

/-- HPMN_illegal (40_access.md R83). -/
def hpmnIllegal (pmcrN h : Nat) : Bool := pmcrN != 0 && (h == 0 || decide (pmcrN < h))

/-- Part_HPMN and Eff_HPMN (42_pmu_controls.md R172): the stored value where it is legal, else a draw from 0 to PMCR_N
for this use (92_eei_decisions.md D10; notes/assumptions 29). -/
def State.partHpmn (s : State) (use : HpmnUse) (n : Nat) : Nat :=
  if !s.cfg.haveEL2 then s.pmcrN
  else if hpmnIllegal s.pmcrN s.hpmn then s.freeBelow (.hpmn use n) (s.pmcrN + 1)
  else if s.pmcrN = 0 then 0
  else s.hpmn

/-- The level is EL0 or EL1. -/
def State.atGuestLevel (s : State) : Bool := decide (s.ps.el = .el0) || decide (s.ps.el = .el1)

/-- The number of counters accessible at the current level (42_pmu_controls.md R171). -/
def State.accessibleCount (s : State) (use : HpmnUse) (n : Nat) : Nat :=
  if s.el2Enabled && s.atGuestLevel then s.partHpmn use n else s.pmcrN

/-- Accessible(n, el) for an implemented counter (42_pmu_controls.md R171). -/
def State.accessible (s : State) (use : HpmnUse) (n : Nat) : Bool := decide (n < s.accessibleCount use n)

/-- VisibleMask(el) (42_pmu_controls.md R173). -/
def State.visibleMask (s : State) : Word :=
  (1#64 <<< 31) ||| ((1#64 <<< s.accessibleCount .bitMask 0) - 1)

/-! ### PMCR_EL0 -/

def State.pmcrE (s : State) : Bool := s.pmu.pmcr.getLsbD 0
def State.pmcrDp (s : State) : Bool :=
  (s.cfg.haveEL3 || (s.cfg.havePMUv3p1 && s.cfg.haveEL2)) && s.pmu.pmcr.getLsbD 5
def State.pmcrLp (s : State) : Bool := s.cfg.havePMUv3p5 && s.pmu.pmcr.getLsbD 7

/-- The bits of PMCR_EL0 that hold what is written: all but N, which is read-only, P and C, which read as zero, and LP
and DP where they do not exist (10_state.md R41; notes/assumptions 19). -/
def pmcrStored (c : Config) : Word :=
  ~~~(0xF806#64 ||| (if c.havePMUv3p5 then 0 else 0x80#64)
    ||| (if c.haveEL3 || (c.havePMUv3p1 && c.haveEL2) then 0 else 0x20#64))

/-- The stored value of PMCR_EL0 after a write of `v`. -/
def pmcrMerge (c : Config) (v : Word) : Word := (v &&& pmcrStored c) ||| (c.pmcrN.setWidth 64 <<< 11)

/-- PMCR_EL0_read (42_pmu_controls.md R179 (a)): N is Eff_HPMN at EL1 and EL0 while EL2 is enabled. -/
def State.pmcrRead (s : State) : Word :=
  (s.pmu.pmcr &&& ~~~0xF800#64) ||| (BitVec.ofNat 64 (s.accessibleCount .readN 0) <<< 11)

/-- Every event counter of the bank that `f` selects, set to zero. -/
def resetSelected (v : Vector Word 31) (f : Nat → Bool) : Nat → Vector Word 31
  | 0 => v
  | k + 1 => let v' := resetSelected v f k; if f k then vset v' k 0 else v'

/-- A write of PMCR_EL0: P resets the accessible event counters, C resets PMCCNTR_EL0 (42_pmu_controls.md R179). -/
def State.pmcrWrite (s : State) (v : Word) : State :=
  { s with pmu := { s.pmu with
      pmcr := pmcrMerge s.cfg v
      evcntr := if v.getLsbD 1 then resetSelected s.pmu.evcntr (s.accessible .resetCounters) s.pmcrN else s.pmu.evcntr
      pmccntr := if v.getLsbD 2 then 0 else s.pmu.pmccntr } }

/-! ### Bit-mask registers (42_pmu_controls.md R173) -/

/-- A set register after a write. -/
def State.maskSet (s : State) (old v : Word) : Word := old ||| (v &&& s.visibleMask)

/-- A clear register after a write. -/
def State.maskClear (s : State) (old v : Word) : Word := old &&& ~~~(v &&& s.visibleMask)

/-! ### The counters -/

/-- A value as a counter holds it: 64 bits with ARMv8.5-PMU, else 32 (10_state.md R45). -/
def counterValue (c : Config) (v : Word) : Word := if c.havePMUv3p5 then v else zext64 (low32 v)

/-- Enabled(n) (42_pmu_controls.md R175). -/
def State.counterEnabled (s : State) (n : Nat) : Bool :=
  s.pmu.pmcnten.getLsbD n && (if n < s.partHpmn .enable n then s.pmcrE else s.hpme)

/-- EnabledCycleCounter (42_pmu_controls.md R175). -/
def State.cycleEnabled (s : State) : Bool := s.pmu.pmcnten.getLsbD 31 && s.pmcrE

/-- ProhibitedByHPMD at the current level (42_pmu_controls.md R177). -/
def State.prohibitedByHpmd (s : State) : Bool :=
  decide (s.ps.el = .el2) && s.cfg.haveEL2 && s.hpmd && (s.cfg.haveDebugv8p2 || !s.inp.extDebugEnabled)

/-- MDCR_EL2 does not prohibit event counter `n` at the current level (42_pmu_controls.md R177). -/
def State.counterAllowed (s : State) (n : Nat) : Bool := !(decide (n < s.partHpmn .prohibit n) && s.prohibitedByHpmd)

/-- MDCR_EL2 does not prohibit PMCCNTR_EL0 at the current level (42_pmu_controls.md R177, R178). -/
def State.cycleAllowed (s : State) : Bool :=
  !(s.pmcrDp && s.prohibitedByHpmd) && !(decide (s.ps.el = .el2) && s.cfg.haveEL2 && s.hccd)

/-- OverflowWidth(n) (42_pmu_controls.md R176). -/
def State.overflowWidth (s : State) (n : Nat) : Nat :=
  if !s.cfg.havePMUv3p5 then 32
  else if n < s.partHpmn .overflow n then (if s.pmcrLp then 64 else 32)
  else (if s.hlp then 64 else 32)

/-- Eff_MT(n) (42_pmu_controls.md R180); with EL3 the bit of the same name in MDCR_EL3 takes its place. Without EL2 the
field has nothing to act on (40_access.md R86; notes/assumptions 38). PMEVTYPER<n>.MT is bit 25 (notes/assumptions 20). -/
def State.effMt (s : State) (n : Nat) : Bool :=
  let off (mtpme : Bool) : Bool := !mtpme || (s.cfg.mtpmeAffinityDisable && s.inp.siblingMtpmuOff)
  if !s.cfg.haveMTPMU then false
  else if s.cfg.haveEL3 then !off (s.ctl.mdcrEl3.getLsbD 28) && (vget s.pmu.evtyper n).getLsbD 25
  else if s.cfg.haveEL2 then !off s.mtpme && (vget s.pmu.evtyper n).getLsbD 25
  else (vget s.pmu.evtyper n).getLsbD 25

/-- An increment carries out of the low `width` bits of `v`. -/
def carriesOut (width : Nat) (v : Word) : Bool := decide ((v.toNat % 2 ^ width) + 1 = 2 ^ width)

/-- One increment of event counter `n`, with its overflow flag (42_pmu_controls.md R176). -/
def State.incrementCounter (s : State) (n : Nat) : State :=
  let old := vget s.pmu.evcntr n
  { s with pmu := { s.pmu with
      evcntr := vset s.pmu.evcntr n (counterValue s.cfg (old + 1))
      pmovs := if carriesOut (s.overflowWidth n) old then s.pmu.pmovs ||| (1#64 <<< n) else s.pmu.pmovs } }

/-- Counter `n` counts events of the PE `source`: its own PE's always, those of another PE of the level 1 affinity group
where Eff_MT(n) is 1 (70_reset_and_hazards.md R277; 42_pmu_controls.md R180). -/
def State.countsFrom (s : State) (n : Nat) : EventSource → Bool
  | .thisPE => true
  | .affinityPE => s.effMt n

/-- The event of counter `n` occurs on `source`: an implemented counter that counts events of that PE, is enabled and
not prohibited counts it, whichever PE it is under the controls of this one (notes/assumptions 26). The spec gives only
these predicates of MDCR_EL2 and PMCR_EL0 (42_pmu_controls.md section 5; R277); that no filter of PMEVTYPER<n>_EL0,
MDCR_EL3.SPME or Debug state is looked at here, because the input stands for an event that they let count, is the model's
choice (DESIGN CHOICE, notes/assumptions 26). -/
def State.countEvent (s : State) (n : Nat) (source : EventSource) : State :=
  if n < s.pmcrN && s.countsFrom n source && s.counterEnabled n && s.counterAllowed n then s.incrementCounter n else s

/-- One cycle: PMCCNTR_EL0 counts if it is enabled and not prohibited. When its overflow flag is set is not in the
spec: at a carry out of bit 63 it is, and at one out of bit 31 a free value decides (notes/assumptions 46). That no
filter of PMCCFILTR_EL0, MDCR_EL3.SPME or Debug state is looked at here is the model's choice (DESIGN CHOICE,
notes/assumptions 26). -/
def State.countCycle (s : State) : State :=
  if s.cycleEnabled && s.cycleAllowed then
    let old := s.pmu.pmccntr
    { s with pmu := { s.pmu with
        pmccntr := old + 1
        pmovs := if carriesOut 64 old || (carriesOut 32 old && (s.free .cycleOverflow).getLsbD 0)
          then s.pmu.pmovs ||| 0x80000000 else s.pmu.pmovs } }
  else s

/-- The software increments of PMSWINC_EL0, events of this PE: each counter below `k` whose bit is set in `v` and which a free bit says is
set to count software increments and is let count by what is outside the spec: its event filter, MDCR_EL3.SPME, Debug
state (notes/assumptions 18). -/
def softwareIncrements (v : Word) : Nat → State → State
  | 0, s => s
  | k + 1, s =>
    let s' := softwareIncrements v k s
    if v.getLsbD k && (s.free .softwareIncrement).getLsbD k then s'.countEvent k .thisPE else s'

/-- A write of PMSWINC_EL0 (42_pmu_controls.md R156, R173). -/
def State.softwareIncrement (s : State) (v : Word) : State := softwareIncrements (v &&& s.visibleMask) s.pmcrN s

end Sys2Proof.Machine
end

