-- ==== Sys2Proof/Machine/Access.lean ====
section
/-! DEFINITION. What an accessor chain decides, and the eight instruction forms as one operation each: do what the
decision says (60_exceptions.md R227, R239, R240). -/

namespace Sys2Proof.Machine

/-- What the chain of an A64 accessor decides. -/
inductive Decision where
  /-- The access is performed; `k` is the register number where the name is indirect (PMXEVTYPER, PMXEVCNTR). -/
  | access (k : Nat)
  /-- The access executes as a NOP (42_pmu_controls.md R167). -/
  | nop
  /-- The access behaves as RAZ/WI (42_pmu_controls.md R167). -/
  | raz
  | undefined
  /-- SysTrap to the level, with EC 0x18. -/
  | trap (T : EL)
  /-- Halt(DebugHalt_SoftwareAccess) (41_debug_traps.md R119). -/
  | halt
  /-- NVMem[off] in place of the register (43_spe_trace.md). -/
  | nvMem (off : Nat)
  deriving DecidableEq, Repr

/-- What the chain of an AArch32 accessor decides. -/
inductive Decision32 where
  | access (k : Nat)
  | nop
  | raz
  | undefined
  /-- AArch32SystemAccessTrap to the level. -/
  | trap (T : EL)
  /-- HypTrap(ec) (60_exceptions.md R234). -/
  | hypTrap
  /-- HypTrap(0x00) (60_exceptions.md R234). -/
  | hypUndef
  /-- AArch32.TakeMonitorTrapException() (43_spe_trace.md R209). -/
  | monitorTrap
  deriving DecidableEq, Repr

/-- The decision is a configured trap (60_exceptions.md R231: those may act on a failed condition). -/
def Decision32.isTrap : Decision32 → Bool
  | .trap _ => true
  | .hypTrap => true
  | .hypUndef => true
  | .monitorTrap => true
  | _ => false

/-- The PE halts; what it does in Debug state is outside the spec (41_debug_traps.md R119; notes/assumptions 31). -/
def State.halt (s : State) : State := { s with inp := { s.inp with halted := true } }

/-! ### A64 -/

/-- The state after `MRS <Xt>, <reg>`: `read` gives the value of the register, `after` the state it leaves. -/
def mrsNext (e : SysEnc) (t : XReg) (d : Decision) (read : Nat → Word) (after : State → State) (s : State) : State :=
  match d with
  | .access k => ((after s).setX t (read k)).advance
  | .nop => s.advance
  | .raz => (s.setX t 0).advance
  | .undefined => s.takeUndefined
  | .trap T => s.takeTrap T 0x18 (iss18 e t true)
  | .halt => s.halt
  | .nvMem off => (s.setX t (s.nvRead off)).advance

/-- `MRS <Xt>, <reg>`. -/
def runMrs (e : SysEnc) (t : XReg) (d : Decision) (read : Nat → Word) (s : State) (after : State → State := id) :
    Host.Outcome State Fault Refusal :=
  .next (mrsNext e t d read after s)

/-- The state after `MSR <reg>, <Xt>`: `write` gives the state after the register is written. -/
def msrNext (e : SysEnc) (t : XReg) (d : Decision) (write : Nat → Word → State) (s : State) : State :=
  match d with
  | .access k => (write k (s.getX t)).advance
  | .nop => s.advance
  | .raz => s.advance
  | .undefined => s.takeUndefined
  | .trap T => s.takeTrap T 0x18 (iss18 e t false)
  | .halt => s.halt
  | .nvMem off => (s.nvWrite off (s.getX t)).advance

/-- `MSR <reg>, <Xt>`. -/
def runMsr (e : SysEnc) (t : XReg) (d : Decision) (write : Nat → Word → State) (s : State) :
    Host.Outcome State Fault Refusal :=
  .next (msrNext e t d write s)

/-! ### AArch32 -/

/-- The exceptions of a decision, with the exception class and the syndrome of the instruction. -/
def State.takeDecision32 (s : State) (ec : BitVec 6) (iss : BitVec 25) : Decision32 → State
  | .undefined => s.takeUndefined
  | .trap T => s.takeTrap T ec iss
  | .hypTrap => s.takeHyp (esrValue ec true iss)
  | .hypUndef => s.takeHyp undefinedEsr
  | .monitorTrap => s.takeMode .el3
  | .access _ => s
  | .nop => s
  | .raz => s

/-- The state after an AArch32 access under its condition: `doAccess` and `doZero` give the state after the transfer,
before the pc moves on. When the condition fails the instruction is a NOP, or still takes a configured trap where the
parameter `trapFailedCondition` says so (60_exceptions.md R231; notes/assumptions 41). -/
def next32 (cond : Cond) (ec : BitVec 6) (iss : BitVec 25) (d : Decision32) (doAccess : Nat → State) (doZero : State)
    (s : State) : State :=
  if s.condPassed cond then
    match d with
    | .access k => (doAccess k).advance
    | .nop => s.advance
    | .raz => doZero.advance
    | _ => s.takeDecision32 ec iss d
  else if s.cfg.trapFailedCondition && d.isTrap then s.takeDecision32 ec iss d
  else s.advance

/-- An AArch32 access under its condition. -/
def run32 (cond : Cond) (ec : BitVec 6) (iss : BitVec 25) (d : Decision32) (doAccess : Nat → State) (doZero : State)
    (s : State) : Host.Outcome State Fault Refusal :=
  .next (next32 cond ec iss d doAccess doZero s)

/-- EC of MRC and MCR: 0x03 for coproc 0b1111, 0x05 for 0b1110 (60_exceptions.md R223). -/
def cpEc (e : CpEnc) : BitVec 6 := if e.coproc = 15 then 0x03 else 0x05

/-- EC of MRRC and MCRR: 0x04 for coproc 0b1111, 0x0C for 0b1110 (60_exceptions.md R223). -/
def cp64Ec (e : Cp64Enc) : BitVec 6 := if e.coproc = 15 then 0x04 else 0x0C

/-- `MRC <reg> to Rt`. -/
def runMrc (cond : Cond) (e : CpEnc) (t : RReg) (d : Decision32) (read : Nat → Word32) (s : State)
    (after : State → State := id) : Host.Outcome State Fault Refusal :=
  run32 cond (cpEc e) (s.issMcr e cond t true) d (fun k => (after s).setR t (read k)) (s.setR t 0) s

/-- `MCR Rt to <reg>`. -/
def runMcr (cond : Cond) (e : CpEnc) (t : RReg) (d : Decision32) (write : Nat → Word32 → State) (s : State) :
    Host.Outcome State Fault Refusal :=
  run32 cond (cpEc e) (s.issMcr e cond t false) d (fun k => write k (s.getR .r15 t)) s s

/-- `MRRC <reg> to Rt, Rt2` (30_encoding.md R66): the low half to Rt and the high half to Rt2, which is written last, so
that it is what Rt = Rt2 holds. Both are the model's choice (notes/assumptions 42). -/
def runMrrc (cond : Cond) (e : Cp64Enc) (t t2 : RReg) (d : Decision32) (value : Word) (s : State) :
    Host.Outcome State Fault Refusal :=
  run32 cond (cp64Ec e) (s.issMcrr e cond t t2 true) d
    (fun _ => (s.setR t (low32 value)).setR t2 (value.extractLsb' 32 32)) ((s.setR t 0).setR t2 0) s

/-- `MCRR Rt, Rt2 to <reg>` (30_encoding.md R66): Rt is the low half and Rt2 the high half, the model's choice
(notes/assumptions 42). -/
def runMcrr (cond : Cond) (e : Cp64Enc) (t t2 : RReg) (d : Decision32) (write : Word → State) (s : State) :
    Host.Outcome State Fault Refusal :=
  run32 cond (cp64Ec e) (s.issMcrr e cond t t2 false) d
    (fun _ => write (s.getR .r15Second t2 ++ s.getR .r15 t)) s s

/-- `LDC <address> to <reg>`: a word of memory is written to the register (41_debug_traps.md R136). -/
def runLdc (cond : Cond) (m : MemOperand) (d : Decision32) (write : Word32 → State → State) (s : State) :
    Host.Outcome State Fault Refusal :=
  run32 cond 0x06 (s.issLdst true cond m) d
    (fun _ => write (BitVec.ofNat 32 (s.load s.bigEndianData (s.memAddress m) 4)) (s.memWriteBack m (s.memOffset m)))
    s s

/-- `STC <reg> to <address>`: the register is stored in a word of memory (41_debug_traps.md R136). -/
def runStc (cond : Cond) (m : MemOperand) (d : Decision32) (value : Word32) (after : State → State) (s : State) :
    Host.Outcome State Fault Refusal :=
  run32 cond 0x06 (s.issLdst false cond m) d
    (fun _ => (after (s.store s.bigEndianData (s.memAddress m) 4 value.toNat)).memWriteBack m (s.memOffset m)) s s

end Sys2Proof.Machine
end

