-- ==== Sys2Proof/Machine/Chains.lean ====
section
/-! DEFINITION. The accessor chains: for each register group the ordered checks that decide an access
(40_access.md, 41_debug_traps.md, 42_pmu_controls.md, 43_spe_trace.md). The first true condition decides (60_exceptions.md
R239). -/

namespace Sys2Proof.Machine

/-! ### MDCR_EL2 and HDCR (40_access.md) -/

/-- The chain of MRS and MSR of MDCR_EL2 (R80, R81). -/
def mdcrChain (s : State) : Decision :=
  match s.ps.el with
  | .el0 => .undefined
  | .el1 => if s.el2Enabled && s.nv then .trap .el2 else .undefined
  | .el2 => if s.a64EL3 && s.tda3 then .trap .el3 else .access 0
  | .el3 => .access 0

/-- The chain of MRC and MCR of HDCR (R84, R85). -/
def hdcrChain (s : State) : Decision32 :=
  match s.ps.el with
  | .el0 => .undefined
  | .el1 =>
    if s.a64EL2 && s.hstrT 1 then .trap .el2
    else if s.a32EL2 && s.hstrT 1 then .hypTrap
    else .undefined
  | .el2 => if s.a64EL3 && s.tda3 then .trap .el3 else .access 0
  | .el3 => if !s.nonSecure then .undefined else .access 0

/-! ### Debug registers, A64 (41_debug_traps.md) -/

/-- MDCR_EL2.TDE or the field `f`: TDx(F). -/
def State.tdx (s : State) (f : Bool) : Bool := s.tde || f

/-- The EL3 controls of the DCC registers (R110). -/
def dccTail (s : State) : Decision :=
  if s.a64EL3 && s.tdcc3 then .trap .el3
  else if s.a64EL3 && s.tda3 then .trap .el3
  else .access 0

/-- The EL1 chain of the DCC registers (R110). -/
def dccEl1 (s : State) : Decision :=
  if s.a64EL2 && s.tdcc then .trap .el2
  else if s.a64EL2 && s.tdx s.tda then .trap .el2
  else dccTail s

/-- The EL0 chain of MDCCSR_EL0 (R110). -/
def dccEl0 (s : State) : Decision :=
  if !s.inp.el1A32 && s.udccDis then (if s.a64EL2 && s.tge then .trap .el2 else .trap .el1)
  else if s.a64EL2 && s.tdcc then .trap .el2
  else if s.a64EL2 && (s.tge || s.tdx s.tda) then .trap .el2
  else dccTail s

/-- The chain of MDCCSR_EL0 (R110). -/
def dccUserChain (s : State) : Decision :=
  match s.ps.el with
  | .el0 => dccEl0 s
  | .el1 => dccEl1 s
  | .el2 => dccTail s
  | .el3 => .access 0

/-- The chain of MDCCINT_EL1, OSDTRRX_EL1 and OSDTRTX_EL1 (R111 to R113). -/
def dccChain (s : State) : Decision :=
  match s.ps.el with
  | .el0 => .undefined
  | .el1 => dccEl1 s
  | .el2 => dccTail s
  | .el3 => .access 0

/-- The chain of DBGDTR_EL0, DBGDTRRX_EL0 and DBGDTRTX_EL0: never trapped in Debug state (R107, R114). -/
def dtrChain (s : State) : Decision := if s.inp.halted then .access 0 else dccUserChain s

/-- The end of the TDA chains at EL2 (R117, R118). -/
def tdaTail (s : State) (acc : Decision) : Decision := if s.a64EL3 && s.tda3 then .trap .el3 else acc

/-- The chain of OSECCR_EL1 and of every register with the TDA control, with `acc` the last branches at EL1, and
`acc'` those at EL2 and EL3 (R117 to R125). `fgt` is the fine-grained bit. -/
def tdaChain (read : Bool) (fgt : Nat) (acc acc' : Decision) (s : State) : Decision :=
  match s.ps.el with
  | .el0 => .undefined
  | .el1 =>
    if s.fgt1 read fgt then .trap .el2
    else if s.a64EL2 && s.tdx s.tda then .trap .el2
    else tdaTail s acc
  | .el2 => tdaTail s acc'
  | .el3 => acc'

/-- HCR_EL2.<NV2,NV1,NV> == '1x1', with EL2 enabled and using AArch64 (R117). -/
def State.nvAny (s : State) : Bool := s.a64EL2 && s.nv2 && s.nv

/-- HCR_EL2.<NV2,NV1,NV> == '111', with EL2 enabled and using AArch64 (43_spe_trace.md R201). -/
def State.nvAll (s : State) : Bool := s.a64EL2 && s.nv2 && s.nv1 && s.nv

/-- The chain of MDSCR_EL1 (R117). -/
def mdscrChain (read : Bool) (s : State) : Decision :=
  tdaChain read 4 (if s.nvAny then .nvMem 0x158 else .access 0) (.access 0) s

/-- The software-access debug halt (R119). -/
def State.softwareAccessHalt (s : State) : Bool :=
  !s.inp.el1A32 && !s.dbg.oslsr.getLsbD 1 && s.inp.haltingAllowed && s.dbg.edscr.getLsbD 21

/-- The chain of a breakpoint or watchpoint register of which `count` exist: "a breakpoint number that is not
implemented is an unallocated encoding" (R119 to R122). -/
def breakChain (read : Bool) (fgt : Nat) (n : BitVec 4) (count : Nat) (s : State) : Decision :=
  let acc : Decision := if s.softwareAccessHalt then .halt else .access 0
  if count ≤ n.toNat then .undefined else tdaChain read fgt acc acc s

/-- The chain of MDRAR_EL1 (R126). -/
def mdrarChain (s : State) : Decision :=
  match s.ps.el with
  | .el0 => .undefined
  | .el1 => if s.a64EL2 && s.tdx s.tdra then .trap .el2 else tdaTail s (.access 0)
  | .el2 => tdaTail s (.access 0)
  | .el3 => .access 0

/-- The chain of OSLAR_EL1, OSLSR_EL1 and DBGPRCR_EL1 (R127, R128, R130), and of OSDLR_EL1 with the conditions `c2`
and `c3` of its two TDOSA branches and `cf` of its fine-grained bit (R129). -/
def tdosaChain (read : Bool) (fgt : Nat) (cf c2 c3 : Bool) (s : State) : Decision :=
  let tail : Decision := if s.a64EL3 && s.tdosa3 && c3 then .trap .el3 else .access 0
  match s.ps.el with
  | .el0 => .undefined
  | .el1 =>
    if s.fgt1 read fgt && cf then .trap .el2
    else if s.a64EL2 && s.tdx s.tdosa && c2 then .trap .el2
    else tail
  | .el2 => tail
  | .el3 => .access 0

/-- The chain of OSDLR_EL1 (R129). -/
def osdlrChain (read : Bool) (s : State) : Decision :=
  tdosaChain read 11 s.cfg.haveDoubleLock (s.cfg.haveDoubleLock || s.cfg.tdosaTrapsOsdlr)
    (s.cfg.haveDoubleLock || s.cfg.mdcrEl3TdosaTrapsOsdlr) s

/-! ### Debug registers, AArch32 (41_debug_traps.md section 4) -/

/-- The chain of the AArch32 TDA group (R132). -/
def tda32Chain (s : State) : Decision32 :=
  match s.ps.el with
  | .el0 => .undefined
  | .el1 =>
    if s.a64EL2 && s.tdx s.tda then .trap .el2
    else if s.a32EL2 && s.tdx s.tda then .hypTrap
    else if s.a64EL3 && s.tda3 then .trap .el3
    else .access 0
  | .el2 => if s.a64EL3 && s.tda3 then .trap .el3 else .access 0
  | .el3 => .access 0

/-- The same for a breakpoint or watchpoint register of which `count` exist (R132; notes/assumptions 32). -/
def break32Chain (n : BitVec 4) (count : Nat) (s : State) : Decision32 :=
  if count ≤ n.toNat then .undefined else tda32Chain s

/-- The EL3 and Monitor controls of the AArch32 registers of the DCC (R133, R137; `dcc` is false for DBGDIDR). At EL2
the same controls act (notes/assumptions 33). -/
def dcc32Tail (dcc : Bool) (s : State) : Decision32 :=
  if dcc && s.a64EL3 && s.tdcc3 then .trap .el3
  else if s.a64EL3 && s.tda3 then .trap .el3
  else if dcc && s.a32EL3 && s.sdcrTdcc then .monitorTrap
  else .access 0

/-- The EL1 chain of the AArch32 registers of the DCC (R133, R137; `dcc` is false for DBGDIDR). -/
def dcc32El1 (dcc : Bool) (s : State) : Decision32 :=
  if dcc && s.a64EL2 && s.tdcc then .trap .el2
  else if dcc && s.a32EL2 && s.tdcc then .hypTrap
  else if s.a64EL2 && s.tdx s.tda then .trap .el2
  else if s.a32EL2 && s.tdx s.tda then .hypTrap
  else dcc32Tail dcc s

/-- The chain of DBGDCCINT, DBGDTRRXext and DBGDTRTXext (R133). -/
def dcc32Chain (s : State) : Decision32 :=
  match s.ps.el with
  | .el0 => .undefined
  | .el1 => dcc32El1 true s
  | .el2 => dcc32Tail true s
  | .el3 => .access 0

/-- The checks of MDSCR_EL1.TDCC and DBGDSCRext.UDCCdis that come first at EL0, then `rest` (R134, R137). -/
def user32First (rest : Decision32) (s : State) : Decision32 :=
  if !s.inp.el1A32 && s.udccDis then (if s.a64EL2 && s.tge then .trap .el2 else .trap .el1)
  else if s.inp.el1A32 && s.udccDis then
    (if s.a64EL2 && s.tge then .trap .el2 else if s.a32EL2 && s.tge then .hypUndef else .undefined)
  else rest

/-- The chain of DBGDIDR (`dcc` false) and DBGDSCRint (R137). -/
def dcc32UserChain (dcc : Bool) (s : State) : Decision32 :=
  match s.ps.el with
  | .el0 =>
    user32First
      (if dcc && s.a64EL2 && s.tdcc then .trap .el2
      else if dcc && s.a32EL2 && s.tdcc then .hypTrap
      else if s.a64EL2 && (s.tge || s.tdx s.tda) then .trap .el2
      else if s.a32EL2 && (s.tge || s.tdx s.tda) then .hypTrap
      else dcc32Tail dcc s) s
  | .el1 => dcc32El1 dcc s
  | .el2 => dcc32Tail dcc s
  | .el3 => .access 0

/-- The chain of DBGDTRRXint and DBGDTRTXint, by MRC and MCR and by STC and LDC: never trapped in Debug state
(R136, R137). -/
def dtr32Chain (s : State) : Decision32 := if s.inp.halted then .access 0 else dcc32UserChain true s

/-- The chain of DBGDRAR and DBGDSAR (R134). -/
def tdra32Chain (s : State) : Decision32 :=
  match s.ps.el with
  | .el0 =>
    user32First
      (if s.a64EL2 && (s.tge || s.tdx s.tdra) then .trap .el2
      else if s.a32EL2 && (s.tge || s.tdx s.tdra) then .hypTrap
      else .access 0) s
  | .el1 =>
    if s.a64EL2 && s.tdx s.tdra then .trap .el2
    else if s.a32EL2 && s.tdx s.tdra then .hypTrap
    else .access 0
  | .el2 => .access 0
  | .el3 => .access 0

/-- The chain of the AArch32 TDOSA group, with the conditions of its two TDOSA branches (R135). -/
def tdosa32Chain (c2 c3 : Bool) (s : State) : Decision32 :=
  let tail : Decision32 := if s.a64EL3 && s.tdosa3 && c3 then .trap .el3 else .access 0
  match s.ps.el with
  | .el0 => .undefined
  | .el1 =>
    if s.a64EL2 && s.tdx s.tdosa && c2 then .trap .el2
    else if s.a32EL2 && s.tdx s.tdosa && c2 then .hypTrap
    else tail
  | .el2 => tail
  | .el3 => .access 0

/-- The chain of DBGOSDLR (R135). -/
def osdlr32Chain (s : State) : Decision32 :=
  tdosa32Chain (s.cfg.haveDoubleLock || s.cfg.tdosaTrapsOsdlr)
    (s.cfg.haveDoubleLock || s.cfg.mdcrEl3TdosaTrapsOsdlr) s

/-! ### Performance Monitors (42_pmu_controls.md) -/

/-- How PMUSERENR_EL0 gates an access at EL0 (R169). -/
inductive UserGate where
  | undefinedAtEl0
  | open
  /-- The access is disabled when all these bits of PMUSERENR_EL0 are zero. -/
  | bits (mask : Word)
  deriving DecidableEq, Repr

/-- PMUSERENR_EL0.EN. -/
def gateEN : UserGate := .bits 1
/-- PMUSERENR_EL0.<SW,EN>. -/
def gateSW : UserGate := .bits 3
/-- PMUSERENR_EL0.<CR,EN>. -/
def gateCR : UserGate := .bits 5
/-- PMUSERENR_EL0.<ER,EN>. -/
def gateER : UserGate := .bits 9

/-- The gate closes the access. -/
def State.gateClosed (s : State) : UserGate → Bool
  | .bits mask => decide (s.pmu.pmuserenr &&& mask = 0)
  | _ => false

/-- The EL3 control of the Performance Monitors registers, then `acc` (R169). -/
def pmuTail (acc : Decision) (s : State) : Decision := if s.a64EL3 && s.tpm3 then .trap .el3 else acc

/-- HPMNCheck(n), in force with FGT when EL2 is enabled and using AArch64: none where the chain goes on (R167). -/
def State.hpmnCheck (s : State) (n : Nat) : Option Decision :=
  if s.cfg.haveFGT && s.a64EL2 then
    if s.pmcrN ≤ n then some .undefined
    else if s.partHpmn .rangeTest n ≤ n then some (.trap .el2)
    else none
  else none

/-- PMUChain (R169): `present`, the register exists; `fgt`, the value of the fine-grained bit; `range`, the HPMN range
check; `tpmcr`, the register has the TPMCR branch; `acc`, what an access does. -/
def pmuChain (present : Bool) (gate : UserGate) (fgt : Option (Bool × Nat)) (range : Option Decision) (tpmcr : Bool)
    (acc : Decision) (s : State) : Decision :=
  if !present then .undefined
  else match s.ps.el with
    | .el0 =>
      if gate = .undefinedAtEl0 then .undefined
      else if s.gateClosed gate then (if s.a64EL2 && s.tge then .trap .el2 else .trap .el1)
      else if fgt.any (fun p => s.fgt0 p.1 p.2) then .trap .el2
      else range.getD
        (if s.a64EL2 && s.tpm then .trap .el2
        else if tpmcr && s.a64EL2 && s.tpmcr then .trap .el2
        else pmuTail acc s)
    | .el1 =>
      if fgt.any (fun p => s.fgt1 p.1 p.2) then .trap .el2
      else range.getD
        (if s.a64EL2 && s.tpm then .trap .el2
        else if tpmcr && s.a64EL2 && s.tpmcr then .trap .el2
        else pmuTail acc s)
    | .el2 => pmuTail acc s
    | .el3 => acc

/-- The chain of a register that is no counter. -/
def pmuPlain (gate : UserGate) (fgt : Option (Bool × Nat)) (s : State) : Decision :=
  pmuChain s.cfg.havePMUv3 gate fgt none false (.access 0) s

/-- The CONSTRAINED UNPREDICTABLE behaviours of an access to counter `n` that is not accessible (R167): `indirect`, the
access is through PMSELR_EL0.SEL; `type`, it is to PMXEVTYPER. -/
def State.counterChoices (s : State) (n : Nat) (indirect type : Bool) : List Decision :=
  [.undefined, .raz, .nop]
    ++ (if s.el2Enabled && s.atGuestLevel && decide (n < s.pmcrN) then [.trap .el2] else [])
    ++ (if indirect && decide (s.accessibleCount .accessLimit n ≠ 0) then
        [.access (s.freeBelow .counterSel (s.accessibleCount .accessLimit n))] else [])
    ++ (if indirect && type then [.access 31] else [])

/-- What the access to counter `n` does once no trap is taken: the access, or one of the permitted behaviours for a
counter that is not accessible (R167; notes/assumptions 28). With `checked` the range check has passed. -/
def State.counterAccess (s : State) (n : Nat) (indirect type checked : Bool) : Decision :=
  if checked || s.accessible .accessLimit n then .access n
  else
    let choices := s.counterChoices n indirect type
    choices.getD (s.freeBelow .counterChoice choices.length) .nop

/-- The range check of R167 is in force for an A64 access at this level. -/
def State.rangeCheckOn (s : State) : Bool := s.cfg.haveFGT && s.a64EL2 && s.atGuestLevel

/-- The chain of PMEVCNTR<n>_EL0, PMEVTYPER<n>_EL0, PMXEVCNTR_EL0 and PMXEVTYPER_EL0 for counter `n` (R160, R161,
R165 to R167). -/
def counterChain (gate : UserGate) (fgt : Bool × Nat) (n : Nat) (indirect type : Bool) (s : State) : Decision :=
  if type && indirect && n == 31 then pmuChain s.cfg.havePMUv3 gate (some fgt) none false (.access 31) s
  else pmuChain s.cfg.havePMUv3 gate (some fgt) (s.hpmnCheck n) false
    (s.counterAccess n indirect type s.rangeCheckOn) s

/-- PMSELR_EL0.SEL (R157; 10_state.md R45), taken as bits [4:0], a position that the spec does not number (PRESUMED,
notes/assumptions 20). -/
def State.pmselrSel (s : State) : Nat := (s.pmu.pmselr.extractLsb' 0 5).toNat

/-- The same decision as an AArch32 one; a trap to EL2 is a Hyp Trap where EL2 is using AArch32. -/
def Decision.to32 (s : State) : Decision → Decision32
  | .access k => .access k
  | .nop => .nop
  | .raz => .raz
  | .undefined => .undefined
  | .trap .el2 => if s.el2A32 then .hypTrap else .trap .el2
  | .trap T => .trap T
  | .halt => .nop
  | .nvMem _ => .nop

/-- The EL3 control of the AArch32 Performance Monitors registers, then `acc` (R168). -/
def pmu32Tail (acc : Decision32) (s : State) : Decision32 := if s.a64EL3 && s.tpm3 then .trap .el3 else acc

/-- The TPM and TPMCR branches of the AArch32 chain, in the order of the PMCR accessor (R168). -/
def pmu32Traps (tpmcr : Bool) (acc : Decision32) (s : State) : Decision32 :=
  if s.a64EL2 && s.tpm then .trap .el2
  else if tpmcr && s.a64EL2 && s.tpmcr then .trap .el2
  else if s.a32EL2 && s.tpm then .hypTrap
  else if tpmcr && s.a32EL2 && s.tpmcr then .hypTrap
  else pmu32Tail acc s

/-- The AArch32 chain of R168: `t9`, the register has the HSTR.T9 branches; `range`, the HPMN range check at EL0. -/
def pmu32Chain (present : Bool) (gate : UserGate) (t9 : Bool) (fgt : Option (Bool × Nat)) (range : Option Decision32)
    (tpmcr : Bool) (acc : Decision32) (s : State) : Decision32 :=
  if !present then .undefined
  else match s.ps.el with
    | .el0 =>
      if gate = .undefinedAtEl0 then .undefined
      else if !s.inp.el1A32 && s.gateClosed gate then (if s.a64EL2 && s.tge then .trap .el2 else .trap .el1)
      else if s.inp.el1A32 && s.gateClosed gate then
        (if s.a64EL2 && s.tge then .trap .el2 else if s.a32EL2 && s.tge then .hypUndef else .undefined)
      else if t9 && s.a64EL2 && !(s.e2h && s.tge) && s.hstrT 9 then .trap .el2
      else if t9 && s.a32EL2 && s.hstrT 9 then .hypTrap
      else if fgt.any (fun p => s.fgt0 p.1 p.2) then .trap .el2
      else range.getD (pmu32Traps tpmcr acc s)
    | .el1 =>
      if t9 && s.a64EL2 && s.hstrT 9 then .trap .el2
      else if t9 && s.a32EL2 && s.hstrT 9 then .hypTrap
      else pmu32Traps tpmcr acc s
    | .el2 => pmu32Tail acc s
    | .el3 => acc

/-- The AArch32 chain of a register with CRn = 9 that is no counter. -/
def pmu32Plain (gate : UserGate) (fgt : Option (Bool × Nat)) (s : State) : Decision32 :=
  pmu32Chain s.cfg.havePMUv3 gate true fgt none false (.access 0) s

/-- The AArch32 chain of a counter register; the range check of R167 is in force at EL0 only (R168). -/
def counter32Chain (gate : UserGate) (t9 : Bool) (fgt : Bool × Nat) (n : Nat) (indirect type : Bool) (s : State) :
    Decision32 :=
  if type && indirect && n == 31 then pmu32Chain s.cfg.havePMUv3 gate t9 (some fgt) none false (.access 31) s
  else
    let checked := s.rangeCheckOn && decide (s.ps.el = .el0)
    pmu32Chain s.cfg.havePMUv3 gate t9 (some fgt) ((s.hpmnCheck n).map (Decision.to32 s)) false
      ((s.counterAccess n indirect type checked).to32 s) s

/-! ### Statistical Profiling and trace filter (43_spe_trace.md) -/

/-- NSPBTrap (43_spe_trace.md shorthand). -/
def State.nspbTrap (s : State) : Bool :=
  s.a64EL3 && ((!s.ctl.scrEl3.getLsbD 0 && s.nspb != 1) || (s.ctl.scrEl3.getLsbD 0 && s.nspb != 3))

/-- The nested-virtualization redirection of an EL1 access, then the access (R201, R204). -/
def nvThen (cond : Bool) (off : Nat) : Decision := if cond then .nvMem off else .access 0

/-- SPEChain and PMBChain (R201, R204): `control` is the MDCR_EL2 test, `acc` the last branches at EL1. -/
def speChain (control : Bool) (read : Bool) (fgt : Nat) (acc : Decision) (s : State) : Decision :=
  if !s.cfg.haveSPE then .undefined
  else match s.ps.el with
    | .el0 => .undefined
    | .el1 =>
      if s.fgt1 read fgt then .trap .el2
      else if s.a64EL2 && control then .trap .el2
      else if s.nspbTrap then .trap .el3
      else acc
    | .el2 => if s.nspbTrap then .trap .el3 else .access 0
    | .el3 => .access 0

/-- SPEChain (R201), with the TPMS control. -/
def tpmsChain (read : Bool) (fgt : Nat) (acc : Decision) (s : State) : Decision := speChain s.tpms read fgt acc s

/-- PMBChain (R204), with the E2PB<0> == 0 control. -/
def pmbChain (read : Bool) (fgt : Nat) (off : Nat) (s : State) : Decision :=
  speChain (!s.e2pb.getLsbD 0) read fgt (nvThen s.nvAny off) s

/-- The chain of PMBIDR_EL1 (R204, R207). -/
def pmbidrChain (s : State) : Decision :=
  if !s.cfg.haveSPE then .undefined
  else if s.ps.el = .el0 then .undefined
  else .access 0

/-- The chain of TRFCR_EL1 (R208); only the write has a fine-grained bit. -/
def trfcrChain (read : Bool) (s : State) : Decision :=
  if !s.cfg.haveTraceFilt then .undefined
  else match s.ps.el with
    | .el0 => .undefined
    | .el1 =>
      if !read && s.fgt1 false 49 then .trap .el2
      else if s.a64EL2 && s.ttrf then .trap .el2
      else if s.a64EL3 && s.ttrf3 then .trap .el3
      else nvThen s.nvAll 0x880
    | .el2 => if s.a64EL3 && s.ttrf3 then .trap .el3 else .access 0
    | .el3 => .access 0

/-- The chain of TRFCR (R209). -/
def trfcr32Chain (s : State) : Decision32 :=
  if !s.cfg.haveTraceFilt then .undefined
  else match s.ps.el with
    | .el0 => .undefined
    | .el1 =>
      if s.a64EL2 && s.hstrT 1 then .trap .el2
      else if s.a32EL2 && s.hstrT 1 then .hypTrap
      else if !s.nonSecure then .undefined
      else if s.a64EL2 && s.ttrf then .trap .el2
      else if s.a32EL2 && s.ttrf then .hypTrap
      else if s.a64EL3 && s.ttrf3 then .trap .el3
      else if s.a32EL3 && s.sdcrTtrf then .monitorTrap
      else .access 0
    | .el2 =>
      if s.a64EL3 && s.ttrf3 then .trap .el3
      else if s.a32EL3 && s.sdcrTtrf then .monitorTrap
      else .access 0
    | .el3 => if !s.nonSecure then .undefined else .access 0

end Sys2Proof.Machine
end

