-- ==== Sys2Proof/Machine/Registers.lean ====
section
/-! DEFINITION. The reads and writes of the registers themselves, where they are more than storage: MDCR_EL2 and HDCR
(40_access.md R82 to R86), the registers with a side effect the spec names, the registers with two homes, and the values
that E2PB computes (43_spe_trace.md R203 to R207). Every other register is plain storage (notes/assumptions 13). -/

namespace Sys2Proof.Machine

/-! ### MDCR_EL2 and HDCR -/

/-- ReadValue() (40_access.md R83): while HPMN is illegal its bits are a free value. Without EL2 the register is RES0
(R86). -/
def State.mdcrRead (s : State) : Word :=
  if !s.cfg.haveEL2 then 0
  else if s.cfg.havePMUv3 && hpmnIllegal s.pmcrN (s.ctl.mdcrEl2.extractLsb' 0 5).toNat then
    (s.ctl.mdcrEl2 &&& ~~~0x1F#64) ||| (s.free .hpmnRead &&& 0x1F)
  else s.ctl.mdcrEl2

/-- WriteValue(old, v) (40_access.md R82, R86). -/
def mdcrMerge (c : Config) (old v : Word) : Word :=
  if !c.haveEL2 then old else if c.res0BitsStored then v else v &&& implMask c

/-- `MDCR_EL2 := WriteValue(MDCR_EL2, v)` (40_access.md R81, R89). -/
def State.mdcrWrite (s : State) (v : Word) : State :=
  { s with ctl := { s.ctl with mdcrEl2 := mdcrMerge s.cfg s.ctl.mdcrEl2 v } }

/-- HDCR.HLP is RAZ/WI: the highest implemented level is using AArch32 and the parameter says so (42_pmu_controls.md
R176; notes/assumptions 43). -/
def State.hlpRazwi (s : State) : Bool := s.cfg.hlpRazwiWhenTopA32 && s.elA32 (resetEL s.cfg)

/-- The bits of HDCR that exist in a view of MDCR_EL2: not [16:12] (40_access.md R84). -/
def State.hdcrMask (s : State) : Word := if s.hlpRazwi then 0xFBFE0FFF else 0xFFFE0FFF

/-- The value of HDCR (40_access.md R84). -/
def State.hdcrRead (s : State) : Word32 := low32 (s.mdcrRead &&& s.hdcrMask)

/-- A write of HDCR (40_access.md R85). -/
def State.hdcrWrite (s : State) (v : Word32) : State :=
  let m := implMask s.cfg &&& s.hdcrMask
  if !s.cfg.haveEL2 then s
  else { s with ctl := { s.ctl with mdcrEl2 := (s.ctl.mdcrEl2 &&& ~~~m) ||| (zext64 v &&& m) } }

/-! ### Debug registers -/

/-- A value drawn for a debug register (notes/assumptions 15 to 17). -/
def State.freeDebug (s : State) (k : Nat) : Word := s.free (.debugRegister k)

/-- A read of DTRRX: "a trapped read ... does not clear the RXfull flag", so one that is performed does
(41_debug_traps.md R108); the status register it shows in is free (notes/assumptions 15). -/
def State.dtrRxTaken (s : State) : State :=
  { s with dbg := { s.dbg with rxFull := false, mdccsrEl0 := s.freeDebug 1 } }

/-- A write of DTRTX; the status register it shows in is free (notes/assumptions 15). -/
def State.dtrTxWrite (s : State) (v : Word32) : State :=
  { s with dbg := { s.dbg with dtrTx := v, mdccsrEl0 := s.freeDebug 1 } }

/-- A write of DBGDTR_EL0: it touches the transfer registers (41_debug_traps.md R108); how it spreads over them the spec
does not say (notes/assumptions 15). -/
def State.dtrWrite (s : State) (_v : Word) : State :=
  { s with dbg := { s.dbg with
      dtrRx := low32 (s.freeDebug 2), dtrTx := low32 (s.freeDebug 3), rxFull := (s.freeDebug 4).getLsbD 0
      mdccsrEl0 := s.freeDebug 1 } }

/-- A write of OSLAR_EL1 or DBGOSLAR: it may change the OS Lock (41_debug_traps.md R108); to what is free
(notes/assumptions 16). -/
def State.osLockWrite (s : State) : State :=
  { s with dbg := { s.dbg with oslsr := (s.dbg.oslsr &&& ~~~2#64) ||| (s.freeDebug 5 &&& 2) } }

/-- A write of a CLAIM register: what it sets or clears is free (notes/assumptions 17). -/
def State.claimWrite (s : State) : State :=
  { s with dbg := { s.dbg with claimSet := s.freeDebug 6, claimClr := s.freeDebug 7 } }

/-! ### Performance Monitors registers -/

/-- PMXEVTYPER: the filter of the cycle counter for SEL = 31, else the type register (42_pmu_controls.md R160). -/
def State.typeRead (s : State) (k : Nat) : Word := if k = 31 then s.pmu.pmccfiltr else vget s.pmu.evtyper k

/-- A write of PMXEVTYPER (42_pmu_controls.md R160). -/
def State.typeWrite (s : State) (k : Nat) (v : Word) : State :=
  if k = 31 then { s with pmu := { s.pmu with pmccfiltr := v } }
  else { s with pmu := { s.pmu with evtyper := vset s.pmu.evtyper k v } }

/-- A write of an event counter (42_pmu_controls.md R165). -/
def State.counterWrite (s : State) (k : Nat) (v : Word) : State :=
  { s with pmu := { s.pmu with evcntr := vset s.pmu.evcntr k (counterValue s.cfg v) } }

/-! ### Statistical Profiling and trace filter registers -/

/-- At EL2 with HCR_EL2.E2H the EL1 name reaches the EL2 register (43_spe_trace.md R201, R208). -/
def State.nameReachesEl2 (s : State) : Bool := decide (s.ps.el = .el2) && s.e2h

/-- PMSCR_EL2.{E2SPE, E0HSPE} are RES0 bits that ignore writes now (43_spe_trace.md R205; notes/assumptions 44). -/
def State.speBitsRes0 (s : State) : Bool := s.e2pb != 0 && !s.cfg.res0BitsStored

/-- PMSCR_EL1 as the current level reads it (43_spe_trace.md R201, R205, R210). -/
def State.pmscrRead (s : State) : Word :=
  if s.nameReachesEl2 then (if s.speBitsRes0 then s.spe.pmscrEl2 &&& ~~~3#64 else s.spe.pmscrEl2) else s.spe.pmscrEl1

/-- PMSCR_EL1 as the current level writes it (43_spe_trace.md R201, R205, R210). -/
def State.pmscrWrite (s : State) (v : Word) : State :=
  if s.nameReachesEl2 then
    { s with spe := { s.spe with
        pmscrEl2 := if s.speBitsRes0 then (v &&& ~~~3#64) ||| (s.spe.pmscrEl2 &&& 3) else v } }
  else { s with spe := { s.spe with pmscrEl1 := v } }

/-- Eff_E2SPE (43_spe_trace.md R205). -/
def State.effE2spe (s : State) : Bool := s.e2pb == 0 && s.spe.pmscrEl2.getLsbD 1

/-- Eff_E0HSPE (43_spe_trace.md R205). -/
def State.effE0hspe (s : State) : Bool := s.e2pb == 0 && s.spe.pmscrEl2.getLsbD 0

/-- PMBIDR_EL1.P as the current level reads it (43_spe_trace.md R207). -/
def State.pmbidrP (s : State) : Bool :=
  let secure := !s.nonSecure
  let at1 := decide (s.ps.el = .el1)
  let at2 := decide (s.ps.el = .el2)
  if s.cfg.haveEL3 && !s.nspb.getLsbD 1 then
    (!secure && (at1 || at2)) || (secure && at1 && s.cfg.haveSecEL2 && s.ctl.scrEl3.getLsbD 18 && s.e2pb == 0)
  else if s.cfg.haveEL3 then
    (secure && at1) || (secure && at2 && s.cfg.haveSecEL2) || (!secure && at1 && s.cfg.haveEL2 && s.e2pb == 0)
  else at1 && s.cfg.haveEL2 && s.e2pb == 0

/-- PMBIDR_EL1 (43_spe_trace.md R207). -/
def State.pmbidrRead (s : State) : Word := (s.spe.pmbidr &&& ~~~0x10#64) ||| (if s.pmbidrP then 0x10 else 0)

/-- A translation regime that owns the Profiling Buffer (43_spe_trace.md R203). -/
inductive Regime where
  | el10
  | el2
  | el20
  deriving DecidableEq, Repr

/-- Eff_NSPB (43_spe_trace.md R203). -/
def State.effNspb (s : State) : BitVec 2 :=
  if s.cfg.haveEL3 then s.nspb else if s.cfg.noEl3NonSecure then 3 else 1

/-- EL2EnabledInOwner (43_spe_trace.md R203). -/
def State.el2EnabledInOwner (s : State) : Bool := s.cfg.haveEL2 && (s.effNspb.getLsbD 1 || s.eel2)

/-- OwningRegime (43_spe_trace.md R203, R206; notes/assumptions 39). -/
def State.owningRegime (s : State) : Regime :=
  let el2Regime : Regime := if s.e2h then .el20 else .el2
  if !s.el2EnabledInOwner then .el10
  else if s.e2pb = 0 then el2Regime
  else if s.e2pb = 2 ∨ s.e2pb = 3 then .el10
  else if (s.free .regime).getLsbD 0 then el2Regime else .el10

/-- OwningEL (43_spe_trace.md R203). -/
def State.owningEL (s : State) : EL := if s.owningRegime = .el10 then .el1 else .el2

/-- TRFCR_EL1 as the current level reads it (43_spe_trace.md R208). -/
def State.trfcrRead (s : State) : Word := if s.nameReachesEl2 then s.spe.trfcrEl2 else s.spe.trfcrEl1

/-- TRFCR_EL1 as the current level writes it (43_spe_trace.md R208). -/
def State.trfcrWrite (s : State) (v : Word) : State :=
  if s.nameReachesEl2 then { s with spe := { s.spe with trfcrEl2 := v } }
  else { s with spe := { s.spe with trfcrEl1 := v } }

end Sys2Proof.Machine
end

