-- ==== Sys2Proof/Machine/DebugA32.lean ====
section
/-! DEFINITION. The meanings of the debug registers by MRC and MCR (41_debug_traps.md section 4):
one definition per instruction, over the chain of its register and the shared operation of its form. -/

namespace Sys2Proof.Machine

/-- `MRC p14, 0, <Rt>, c0, c0, 0; DBGDIDR` (41_debug_traps.md R137). -/
def execMrcDbgdidr (cond : Cond) (t : RReg) (s : State) : Host.Outcome State Fault Refusal :=
  runMrc cond Enc32.dbgdidr t (dcc32UserChain false s)
    (fun _ => s.dbg.dbgdidr) s

/-- `MRC p14, 0, <Rt>, c0, c1, 0; DBGDSCRint` (41_debug_traps.md R137). -/
def execMrcDbgdscrint (cond : Cond) (t : RReg) (s : State) : Host.Outcome State Fault Refusal :=
  runMrc cond Enc32.dbgdscrint t (dcc32UserChain true s)
    (fun _ => low32 s.dbg.mdccsrEl0) s

/-- `MRC p14, 0, <Rt>, c0, c5, 0; DBGDTRRXint` (41_debug_traps.md R137). -/
def execMrcDbgdtrrxint (cond : Cond) (t : RReg) (s : State) : Host.Outcome State Fault Refusal :=
  runMrc cond Enc32.dbgdtrrxint t (dtr32Chain s)
    (fun _ => s.dbg.dtrRx) s State.dtrRxTaken

/-- `MCR p14, 0, <Rt>, c0, c5, 0; DBGDTRTXint` (41_debug_traps.md R137). -/
def execMcrDbgdtrtxint (cond : Cond) (t : RReg) (s : State) : Host.Outcome State Fault Refusal :=
  runMcr cond Enc32.dbgdtrtxint t (dtr32Chain s)
    (fun _ v => s.dtrTxWrite v) s

/-- `MRC p14, 0, <Rt>, c0, c2, 0; DBGDCCINT` (41_debug_traps.md R133). -/
def execMrcDbgdccint (cond : Cond) (t : RReg) (s : State) : Host.Outcome State Fault Refusal :=
  runMrc cond Enc32.dbgdccint t (dcc32Chain s)
    (fun _ => low32 s.dbg.mdccintEl1) s

/-- `MCR p14, 0, <Rt>, c0, c2, 0; DBGDCCINT` (41_debug_traps.md R133). -/
def execMcrDbgdccint (cond : Cond) (t : RReg) (s : State) : Host.Outcome State Fault Refusal :=
  runMcr cond Enc32.dbgdccint t (dcc32Chain s)
    (fun _ v => { s with dbg := { s.dbg with mdccintEl1 := withLow32 s.dbg.mdccintEl1 v } }) s

/-- `MRC p14, 0, <Rt>, c0, c0, 2; DBGDTRRXext` (41_debug_traps.md R133). -/
def execMrcDbgdtrrxext (cond : Cond) (t : RReg) (s : State) : Host.Outcome State Fault Refusal :=
  runMrc cond Enc32.dbgdtrrxext t (dcc32Chain s)
    (fun _ => low32 s.dbg.osdtrrxEl1) s

/-- `MCR p14, 0, <Rt>, c0, c0, 2; DBGDTRRXext` (41_debug_traps.md R133). -/
def execMcrDbgdtrrxext (cond : Cond) (t : RReg) (s : State) : Host.Outcome State Fault Refusal :=
  runMcr cond Enc32.dbgdtrrxext t (dcc32Chain s)
    (fun _ v => { s with dbg := { s.dbg with osdtrrxEl1 := withLow32 s.dbg.osdtrrxEl1 v } }) s

/-- `MRC p14, 0, <Rt>, c0, c3, 2; DBGDTRTXext` (41_debug_traps.md R133). -/
def execMrcDbgdtrtxext (cond : Cond) (t : RReg) (s : State) : Host.Outcome State Fault Refusal :=
  runMrc cond Enc32.dbgdtrtxext t (dcc32Chain s)
    (fun _ => low32 s.dbg.osdtrtxEl1) s

/-- `MCR p14, 0, <Rt>, c0, c3, 2; DBGDTRTXext` (41_debug_traps.md R133). -/
def execMcrDbgdtrtxext (cond : Cond) (t : RReg) (s : State) : Host.Outcome State Fault Refusal :=
  runMcr cond Enc32.dbgdtrtxext t (dcc32Chain s)
    (fun _ v => { s with dbg := { s.dbg with osdtrtxEl1 := withLow32 s.dbg.osdtrtxEl1 v } }) s

/-- `MRC p14, 0, <Rt>, c0, c2, 2; DBGDSCRext` (41_debug_traps.md R132). -/
def execMrcDbgdscrext (cond : Cond) (t : RReg) (s : State) : Host.Outcome State Fault Refusal :=
  runMrc cond Enc32.dbgdscrext t (tda32Chain s)
    (fun _ => low32 s.dbg.mdscrEl1) s

/-- `MCR p14, 0, <Rt>, c0, c2, 2; DBGDSCRext` (41_debug_traps.md R132). -/
def execMcrDbgdscrext (cond : Cond) (t : RReg) (s : State) : Host.Outcome State Fault Refusal :=
  runMcr cond Enc32.dbgdscrext t (tda32Chain s)
    (fun _ v => { s with dbg := { s.dbg with mdscrEl1 := withLow32 s.dbg.mdscrEl1 v } }) s

/-- `MRC p14, 0, <Rt>, c0, c6, 0; DBGWFAR` (41_debug_traps.md R132). -/
def execMrcDbgwfar (cond : Cond) (t : RReg) (s : State) : Host.Outcome State Fault Refusal :=
  runMrc cond Enc32.dbgwfar t (tda32Chain s)
    (fun _ => s.dbg.dbgwfar) s

/-- `MCR p14, 0, <Rt>, c0, c6, 0; DBGWFAR` (41_debug_traps.md R132). -/
def execMcrDbgwfar (cond : Cond) (t : RReg) (s : State) : Host.Outcome State Fault Refusal :=
  runMcr cond Enc32.dbgwfar t (tda32Chain s)
    (fun _ v => { s with dbg := { s.dbg with dbgwfar := v } }) s

/-- `MRC p14, 0, <Rt>, c0, c7, 0; DBGVCR` (41_debug_traps.md R132). -/
def execMrcDbgvcr (cond : Cond) (t : RReg) (s : State) : Host.Outcome State Fault Refusal :=
  runMrc cond Enc32.dbgvcr t (tda32Chain s)
    (fun _ => s.dbg.dbgvcr) s

/-- `MCR p14, 0, <Rt>, c0, c7, 0; DBGVCR` (41_debug_traps.md R132). -/
def execMcrDbgvcr (cond : Cond) (t : RReg) (s : State) : Host.Outcome State Fault Refusal :=
  runMcr cond Enc32.dbgvcr t (tda32Chain s)
    (fun _ v => { s with dbg := { s.dbg with dbgvcr := v } }) s

/-- `MRC p14, 0, <Rt>, c0, c6, 2; DBGOSECCR` (41_debug_traps.md R132). -/
def execMrcDbgoseccr (cond : Cond) (t : RReg) (s : State) : Host.Outcome State Fault Refusal :=
  runMrc cond Enc32.dbgoseccr t (tda32Chain s)
    (fun _ => low32 s.dbg.oseccrEl1) s

/-- `MCR p14, 0, <Rt>, c0, c6, 2; DBGOSECCR` (41_debug_traps.md R132). -/
def execMcrDbgoseccr (cond : Cond) (t : RReg) (s : State) : Host.Outcome State Fault Refusal :=
  runMcr cond Enc32.dbgoseccr t (tda32Chain s)
    (fun _ v => { s with dbg := { s.dbg with oseccrEl1 := withLow32 s.dbg.oseccrEl1 v } }) s

/-- `MRC p14, 0, <Rt>, c0, c<n>, 4; DBGBVR<n>` (41_debug_traps.md R132). -/
def execMrcDbgbvr (cond : Cond) (n : BitVec 4) (t : RReg) (s : State) : Host.Outcome State Fault Refusal :=
  runMrc cond (Enc32.dbgbvr n) t (break32Chain n s.cfg.breakpoints s)
    (fun _ => low32 (vget s.dbg.bvr n.toNat)) s

/-- `MCR p14, 0, <Rt>, c0, c<n>, 4; DBGBVR<n>` (41_debug_traps.md R132). -/
def execMcrDbgbvr (cond : Cond) (n : BitVec 4) (t : RReg) (s : State) : Host.Outcome State Fault Refusal :=
  runMcr cond (Enc32.dbgbvr n) t (break32Chain n s.cfg.breakpoints s)
    (fun _ v => { s with dbg := { s.dbg with bvr := vset s.dbg.bvr n.toNat (withLow32 (vget s.dbg.bvr n.toNat) v) } }) s

/-- `MRC p14, 0, <Rt>, c0, c<n>, 5; DBGBCR<n>` (41_debug_traps.md R132). -/
def execMrcDbgbcr (cond : Cond) (n : BitVec 4) (t : RReg) (s : State) : Host.Outcome State Fault Refusal :=
  runMrc cond (Enc32.dbgbcr n) t (break32Chain n s.cfg.breakpoints s)
    (fun _ => low32 (vget s.dbg.bcr n.toNat)) s

/-- `MCR p14, 0, <Rt>, c0, c<n>, 5; DBGBCR<n>` (41_debug_traps.md R132). -/
def execMcrDbgbcr (cond : Cond) (n : BitVec 4) (t : RReg) (s : State) : Host.Outcome State Fault Refusal :=
  runMcr cond (Enc32.dbgbcr n) t (break32Chain n s.cfg.breakpoints s)
    (fun _ v => { s with dbg := { s.dbg with bcr := vset s.dbg.bcr n.toNat (withLow32 (vget s.dbg.bcr n.toNat) v) } }) s

/-- `MRC p14, 0, <Rt>, c0, c<n>, 6; DBGWVR<n>` (41_debug_traps.md R132). -/
def execMrcDbgwvr (cond : Cond) (n : BitVec 4) (t : RReg) (s : State) : Host.Outcome State Fault Refusal :=
  runMrc cond (Enc32.dbgwvr n) t (break32Chain n s.cfg.watchpoints s)
    (fun _ => low32 (vget s.dbg.wvr n.toNat)) s

/-- `MCR p14, 0, <Rt>, c0, c<n>, 6; DBGWVR<n>` (41_debug_traps.md R132). -/
def execMcrDbgwvr (cond : Cond) (n : BitVec 4) (t : RReg) (s : State) : Host.Outcome State Fault Refusal :=
  runMcr cond (Enc32.dbgwvr n) t (break32Chain n s.cfg.watchpoints s)
    (fun _ v => { s with dbg := { s.dbg with wvr := vset s.dbg.wvr n.toNat (withLow32 (vget s.dbg.wvr n.toNat) v) } }) s

/-- `MRC p14, 0, <Rt>, c0, c<n>, 7; DBGWCR<n>` (41_debug_traps.md R132). -/
def execMrcDbgwcr (cond : Cond) (n : BitVec 4) (t : RReg) (s : State) : Host.Outcome State Fault Refusal :=
  runMrc cond (Enc32.dbgwcr n) t (break32Chain n s.cfg.watchpoints s)
    (fun _ => low32 (vget s.dbg.wcr n.toNat)) s

/-- `MCR p14, 0, <Rt>, c0, c<n>, 7; DBGWCR<n>` (41_debug_traps.md R132). -/
def execMcrDbgwcr (cond : Cond) (n : BitVec 4) (t : RReg) (s : State) : Host.Outcome State Fault Refusal :=
  runMcr cond (Enc32.dbgwcr n) t (break32Chain n s.cfg.watchpoints s)
    (fun _ v => { s with dbg := { s.dbg with wcr := vset s.dbg.wcr n.toNat (withLow32 (vget s.dbg.wcr n.toNat) v) } }) s

/-- `MRC p14, 0, <Rt>, c1, c<n>, 1; DBGBXVR<n>` (41_debug_traps.md R132). -/
def execMrcDbgbxvr (cond : Cond) (n : BitVec 4) (t : RReg) (s : State) : Host.Outcome State Fault Refusal :=
  runMrc cond (Enc32.dbgbxvr n) t (break32Chain n s.cfg.breakpoints s)
    (fun _ => (vget s.dbg.bvr n.toNat).extractLsb' 32 32) s

/-- `MCR p14, 0, <Rt>, c1, c<n>, 1; DBGBXVR<n>` (41_debug_traps.md R132). -/
def execMcrDbgbxvr (cond : Cond) (n : BitVec 4) (t : RReg) (s : State) : Host.Outcome State Fault Refusal :=
  runMcr cond (Enc32.dbgbxvr n) t (break32Chain n s.cfg.breakpoints s)
    (fun _ v => { s with dbg := { s.dbg with bvr := vset s.dbg.bvr n.toNat (v ++ low32 (vget s.dbg.bvr n.toNat)) } }) s

/-- `MRC p14, 0, <Rt>, c7, c8, 6; DBGCLAIMSET` (41_debug_traps.md R132). -/
def execMrcDbgclaimset (cond : Cond) (t : RReg) (s : State) : Host.Outcome State Fault Refusal :=
  runMrc cond Enc32.dbgclaimset t (tda32Chain s)
    (fun _ => low32 s.dbg.claimSet) s

/-- `MCR p14, 0, <Rt>, c7, c8, 6; DBGCLAIMSET` (41_debug_traps.md R132). -/
def execMcrDbgclaimset (cond : Cond) (t : RReg) (s : State) : Host.Outcome State Fault Refusal :=
  runMcr cond Enc32.dbgclaimset t (tda32Chain s)
    (fun _ _ => s.claimWrite) s

/-- `MRC p14, 0, <Rt>, c7, c9, 6; DBGCLAIMCLR` (41_debug_traps.md R132). -/
def execMrcDbgclaimclr (cond : Cond) (t : RReg) (s : State) : Host.Outcome State Fault Refusal :=
  runMrc cond Enc32.dbgclaimclr t (tda32Chain s)
    (fun _ => low32 s.dbg.claimClr) s

/-- `MCR p14, 0, <Rt>, c7, c9, 6; DBGCLAIMCLR` (41_debug_traps.md R132). -/
def execMcrDbgclaimclr (cond : Cond) (t : RReg) (s : State) : Host.Outcome State Fault Refusal :=
  runMcr cond Enc32.dbgclaimclr t (tda32Chain s)
    (fun _ _ => s.claimWrite) s

/-- `MRC p14, 0, <Rt>, c7, c14, 6; DBGAUTHSTATUS` (41_debug_traps.md R132). -/
def execMrcDbgauthstatus (cond : Cond) (t : RReg) (s : State) : Host.Outcome State Fault Refusal :=
  runMrc cond Enc32.dbgauthstatus t (tda32Chain s)
    (fun _ => low32 s.dbg.dbgauthstatus) s

/-- `MRC p14, 0, <Rt>, c7, c2, 7; DBGDEVID` (41_debug_traps.md R132). -/
def execMrcDbgdevid (cond : Cond) (t : RReg) (s : State) : Host.Outcome State Fault Refusal :=
  runMrc cond Enc32.dbgdevid t (tda32Chain s)
    (fun _ => s.dbg.dbgdevid) s

/-- `MRC p14, 0, <Rt>, c7, c1, 7; DBGDEVID1` (41_debug_traps.md R132). -/
def execMrcDbgdevid1 (cond : Cond) (t : RReg) (s : State) : Host.Outcome State Fault Refusal :=
  runMrc cond Enc32.dbgdevid1 t (tda32Chain s)
    (fun _ => s.dbg.dbgdevid1) s

/-- `MRC p14, 0, <Rt>, c7, c0, 7; DBGDEVID2` (41_debug_traps.md R132). -/
def execMrcDbgdevid2 (cond : Cond) (t : RReg) (s : State) : Host.Outcome State Fault Refusal :=
  runMrc cond Enc32.dbgdevid2 t (tda32Chain s)
    (fun _ => s.dbg.dbgdevid2) s

/-- `MRC p14, 0, <Rt>, c1, c0, 0; DBGDRAR` (41_debug_traps.md R134). -/
def execMrcDbgdrar (cond : Cond) (t : RReg) (s : State) : Host.Outcome State Fault Refusal :=
  runMrc cond Enc32.dbgdrar t (tdra32Chain s)
    (fun _ => low32 s.dbg.mdrar) s

/-- `MRC p14, 0, <Rt>, c2, c0, 0; DBGDSAR` (41_debug_traps.md R134). -/
def execMrcDbgdsar (cond : Cond) (t : RReg) (s : State) : Host.Outcome State Fault Refusal :=
  runMrc cond Enc32.dbgdsar t (tdra32Chain s)
    (fun _ => low32 s.dbg.dbgdsar) s

/-- `MCR p14, 0, <Rt>, c1, c0, 4; DBGOSLAR` (41_debug_traps.md R135). -/
def execMcrDbgoslar (cond : Cond) (t : RReg) (s : State) : Host.Outcome State Fault Refusal :=
  runMcr cond Enc32.dbgoslar t (tdosa32Chain true true s)
    (fun _ _ => s.osLockWrite) s

/-- `MRC p14, 0, <Rt>, c1, c1, 4; DBGOSLSR` (41_debug_traps.md R135). -/
def execMrcDbgoslsr (cond : Cond) (t : RReg) (s : State) : Host.Outcome State Fault Refusal :=
  runMrc cond Enc32.dbgoslsr t (tdosa32Chain true true s)
    (fun _ => low32 s.dbg.oslsr) s

/-- `MRC p14, 0, <Rt>, c1, c3, 4; DBGOSDLR` (41_debug_traps.md R135). -/
def execMrcDbgosdlr (cond : Cond) (t : RReg) (s : State) : Host.Outcome State Fault Refusal :=
  runMrc cond Enc32.dbgosdlr t (osdlr32Chain s)
    (fun _ => low32 s.dbg.osdlr) s

/-- `MCR p14, 0, <Rt>, c1, c3, 4; DBGOSDLR` (41_debug_traps.md R135). -/
def execMcrDbgosdlr (cond : Cond) (t : RReg) (s : State) : Host.Outcome State Fault Refusal :=
  runMcr cond Enc32.dbgosdlr t (osdlr32Chain s)
    (fun _ v => { s with dbg := { s.dbg with osdlr := withLow32 s.dbg.osdlr v } }) s

/-- `MRC p14, 0, <Rt>, c1, c4, 4; DBGPRCR` (41_debug_traps.md R135). -/
def execMrcDbgprcr (cond : Cond) (t : RReg) (s : State) : Host.Outcome State Fault Refusal :=
  runMrc cond Enc32.dbgprcr t (tdosa32Chain true true s)
    (fun _ => low32 s.dbg.dbgprcr) s

/-- `MCR p14, 0, <Rt>, c1, c4, 4; DBGPRCR` (41_debug_traps.md R135). -/
def execMcrDbgprcr (cond : Cond) (t : RReg) (s : State) : Host.Outcome State Fault Refusal :=
  runMcr cond Enc32.dbgprcr t (tdosa32Chain true true s)
    (fun _ v => { s with dbg := { s.dbg with dbgprcr := withLow32 s.dbg.dbgprcr v } }) s

end Sys2Proof.Machine
end

