-- ==== Sys2Proof/Machine/DebugA64.lean ====
section
/-! DEFINITION. The meanings of the debug registers by MRS and MSR (41_debug_traps.md section 3):
one definition per instruction, over the chain of its register and the shared operation of its form. -/

namespace Sys2Proof.Machine

/-- `MRS <Xt>, MDCCSR_EL0` (41_debug_traps.md R110). -/
def execMrsMdccsrEl0 (t : XReg) (s : State) : Host.Outcome State Fault Refusal :=
  runMrs Enc.mdccsrEl0 t (dccUserChain s)
    (fun _ => s.dbg.mdccsrEl0) s

/-- `MRS <Xt>, MDCCINT_EL1` (41_debug_traps.md R111). -/
def execMrsMdccintEl1 (t : XReg) (s : State) : Host.Outcome State Fault Refusal :=
  runMrs Enc.mdccintEl1 t (dccChain s)
    (fun _ => s.dbg.mdccintEl1) s

/-- `MSR MDCCINT_EL1, <Xt>` (41_debug_traps.md R111). -/
def execMsrMdccintEl1 (t : XReg) (s : State) : Host.Outcome State Fault Refusal :=
  runMsr Enc.mdccintEl1 t (dccChain s)
    (fun _ v => { s with dbg := { s.dbg with mdccintEl1 := v } }) s

/-- `MRS <Xt>, OSDTRRX_EL1` (41_debug_traps.md R112). -/
def execMrsOsdtrrxEl1 (t : XReg) (s : State) : Host.Outcome State Fault Refusal :=
  runMrs Enc.osdtrrxEl1 t (dccChain s)
    (fun _ => s.dbg.osdtrrxEl1) s

/-- `MSR OSDTRRX_EL1, <Xt>` (41_debug_traps.md R112). -/
def execMsrOsdtrrxEl1 (t : XReg) (s : State) : Host.Outcome State Fault Refusal :=
  runMsr Enc.osdtrrxEl1 t (dccChain s)
    (fun _ v => { s with dbg := { s.dbg with osdtrrxEl1 := v } }) s

/-- `MRS <Xt>, OSDTRTX_EL1` (41_debug_traps.md R113). -/
def execMrsOsdtrtxEl1 (t : XReg) (s : State) : Host.Outcome State Fault Refusal :=
  runMrs Enc.osdtrtxEl1 t (dccChain s)
    (fun _ => s.dbg.osdtrtxEl1) s

/-- `MSR OSDTRTX_EL1, <Xt>` (41_debug_traps.md R113). -/
def execMsrOsdtrtxEl1 (t : XReg) (s : State) : Host.Outcome State Fault Refusal :=
  runMsr Enc.osdtrtxEl1 t (dccChain s)
    (fun _ v => { s with dbg := { s.dbg with osdtrtxEl1 := v } }) s

/-- `MRS <Xt>, DBGDTR_EL0` (41_debug_traps.md R114). -/
def execMrsDbgdtrEl0 (t : XReg) (s : State) : Host.Outcome State Fault Refusal :=
  runMrs Enc.dbgdtrEl0 t (dtrChain s)
    (fun _ => s.freeDebug 0) s State.dtrRxTaken

/-- `MSR DBGDTR_EL0, <Xt>` (41_debug_traps.md R114). -/
def execMsrDbgdtrEl0 (t : XReg) (s : State) : Host.Outcome State Fault Refusal :=
  runMsr Enc.dbgdtrEl0 t (dtrChain s)
    (fun _ v => s.dtrWrite v) s

/-- `MRS <Xt>, DBGDTRRX_EL0` (41_debug_traps.md R115). -/
def execMrsDbgdtrrxEl0 (t : XReg) (s : State) : Host.Outcome State Fault Refusal :=
  runMrs Enc.dbgdtrrxEl0 t (dtrChain s)
    (fun _ => zext64 s.dbg.dtrRx) s State.dtrRxTaken

/-- `MSR DBGDTRTX_EL0, <Xt>` (41_debug_traps.md R116). -/
def execMsrDbgdtrtxEl0 (t : XReg) (s : State) : Host.Outcome State Fault Refusal :=
  runMsr Enc.dbgdtrtxEl0 t (dtrChain s)
    (fun _ v => s.dtrTxWrite (low32 v)) s

/-- `MRS <Xt>, MDSCR_EL1` (41_debug_traps.md R117). -/
def execMrsMdscrEl1 (t : XReg) (s : State) : Host.Outcome State Fault Refusal :=
  runMrs Enc.mdscrEl1 t (mdscrChain true s)
    (fun _ => s.dbg.mdscrEl1) s

/-- `MSR MDSCR_EL1, <Xt>` (41_debug_traps.md R117). -/
def execMsrMdscrEl1 (t : XReg) (s : State) : Host.Outcome State Fault Refusal :=
  runMsr Enc.mdscrEl1 t (mdscrChain false s)
    (fun _ v => { s with dbg := { s.dbg with mdscrEl1 := v } }) s

/-- `MRS <Xt>, OSECCR_EL1` (41_debug_traps.md R118). -/
def execMrsOseccrEl1 (t : XReg) (s : State) : Host.Outcome State Fault Refusal :=
  runMrs Enc.oseccrEl1 t (tdaChain true 10 (.access 0) (.access 0) s)
    (fun _ => s.dbg.oseccrEl1) s

/-- `MSR OSECCR_EL1, <Xt>` (41_debug_traps.md R118). -/
def execMsrOseccrEl1 (t : XReg) (s : State) : Host.Outcome State Fault Refusal :=
  runMsr Enc.oseccrEl1 t (tdaChain false 10 (.access 0) (.access 0) s)
    (fun _ v => { s with dbg := { s.dbg with oseccrEl1 := v } }) s

/-- `MRS <Xt>, DBGBVR<n>_EL1` (41_debug_traps.md R119). -/
def execMrsDbgbvrEl1 (n : BitVec 4) (t : XReg) (s : State) : Host.Outcome State Fault Refusal :=
  runMrs (Enc.dbgbvrEl1 n) t (breakChain true 1 n s.cfg.breakpoints s)
    (fun _ => vget s.dbg.bvr n.toNat) s

/-- `MSR DBGBVR<n>_EL1, <Xt>` (41_debug_traps.md R119). -/
def execMsrDbgbvrEl1 (n : BitVec 4) (t : XReg) (s : State) : Host.Outcome State Fault Refusal :=
  runMsr (Enc.dbgbvrEl1 n) t (breakChain false 1 n s.cfg.breakpoints s)
    (fun _ v => { s with dbg := { s.dbg with bvr := vset s.dbg.bvr n.toNat v } }) s

/-- `MRS <Xt>, DBGBCR<n>_EL1` (41_debug_traps.md R120). -/
def execMrsDbgbcrEl1 (n : BitVec 4) (t : XReg) (s : State) : Host.Outcome State Fault Refusal :=
  runMrs (Enc.dbgbcrEl1 n) t (breakChain true 0 n s.cfg.breakpoints s)
    (fun _ => vget s.dbg.bcr n.toNat) s

/-- `MSR DBGBCR<n>_EL1, <Xt>` (41_debug_traps.md R120). -/
def execMsrDbgbcrEl1 (n : BitVec 4) (t : XReg) (s : State) : Host.Outcome State Fault Refusal :=
  runMsr (Enc.dbgbcrEl1 n) t (breakChain false 0 n s.cfg.breakpoints s)
    (fun _ v => { s with dbg := { s.dbg with bcr := vset s.dbg.bcr n.toNat v } }) s

/-- `MRS <Xt>, DBGWVR<n>_EL1` (41_debug_traps.md R121). -/
def execMrsDbgwvrEl1 (n : BitVec 4) (t : XReg) (s : State) : Host.Outcome State Fault Refusal :=
  runMrs (Enc.dbgwvrEl1 n) t (breakChain true 3 n s.cfg.watchpoints s)
    (fun _ => vget s.dbg.wvr n.toNat) s

/-- `MSR DBGWVR<n>_EL1, <Xt>` (41_debug_traps.md R121). -/
def execMsrDbgwvrEl1 (n : BitVec 4) (t : XReg) (s : State) : Host.Outcome State Fault Refusal :=
  runMsr (Enc.dbgwvrEl1 n) t (breakChain false 3 n s.cfg.watchpoints s)
    (fun _ v => { s with dbg := { s.dbg with wvr := vset s.dbg.wvr n.toNat v } }) s

/-- `MRS <Xt>, DBGWCR<n>_EL1` (41_debug_traps.md R122). -/
def execMrsDbgwcrEl1 (n : BitVec 4) (t : XReg) (s : State) : Host.Outcome State Fault Refusal :=
  runMrs (Enc.dbgwcrEl1 n) t (breakChain true 2 n s.cfg.watchpoints s)
    (fun _ => vget s.dbg.wcr n.toNat) s

/-- `MSR DBGWCR<n>_EL1, <Xt>` (41_debug_traps.md R122). -/
def execMsrDbgwcrEl1 (n : BitVec 4) (t : XReg) (s : State) : Host.Outcome State Fault Refusal :=
  runMsr (Enc.dbgwcrEl1 n) t (breakChain false 2 n s.cfg.watchpoints s)
    (fun _ v => { s with dbg := { s.dbg with wcr := vset s.dbg.wcr n.toNat v } }) s

/-- `MRS <Xt>, DBGCLAIMSET_EL1` (41_debug_traps.md R123). -/
def execMrsDbgclaimsetEl1 (t : XReg) (s : State) : Host.Outcome State Fault Refusal :=
  runMrs Enc.dbgclaimsetEl1 t (tdaChain true 5 (.access 0) (.access 0) s)
    (fun _ => s.dbg.claimSet) s

/-- `MSR DBGCLAIMSET_EL1, <Xt>` (41_debug_traps.md R123). -/
def execMsrDbgclaimsetEl1 (t : XReg) (s : State) : Host.Outcome State Fault Refusal :=
  runMsr Enc.dbgclaimsetEl1 t (tdaChain false 5 (.access 0) (.access 0) s)
    (fun _ _ => s.claimWrite) s

/-- `MRS <Xt>, DBGCLAIMCLR_EL1` (41_debug_traps.md R124). -/
def execMrsDbgclaimclrEl1 (t : XReg) (s : State) : Host.Outcome State Fault Refusal :=
  runMrs Enc.dbgclaimclrEl1 t (tdaChain true 5 (.access 0) (.access 0) s)
    (fun _ => s.dbg.claimClr) s

/-- `MSR DBGCLAIMCLR_EL1, <Xt>` (41_debug_traps.md R124). -/
def execMsrDbgclaimclrEl1 (t : XReg) (s : State) : Host.Outcome State Fault Refusal :=
  runMsr Enc.dbgclaimclrEl1 t (tdaChain false 5 (.access 0) (.access 0) s)
    (fun _ _ => s.claimWrite) s

/-- `MRS <Xt>, DBGAUTHSTATUS_EL1` (41_debug_traps.md R125). -/
def execMrsDbgauthstatusEl1 (t : XReg) (s : State) : Host.Outcome State Fault Refusal :=
  runMrs Enc.dbgauthstatusEl1 t (tdaChain true 6 (.access 0) (.access 0) s)
    (fun _ => s.dbg.dbgauthstatus) s

/-- `MRS <Xt>, MDRAR_EL1` (41_debug_traps.md R126). -/
def execMrsMdrarEl1 (t : XReg) (s : State) : Host.Outcome State Fault Refusal :=
  runMrs Enc.mdrarEl1 t (mdrarChain s)
    (fun _ => s.dbg.mdrar) s

/-- `MSR OSLAR_EL1, <Xt>` (41_debug_traps.md R127). -/
def execMsrOslarEl1 (t : XReg) (s : State) : Host.Outcome State Fault Refusal :=
  runMsr Enc.oslarEl1 t (tdosaChain false 8 true true true s)
    (fun _ _ => s.osLockWrite) s

/-- `MRS <Xt>, OSLSR_EL1` (41_debug_traps.md R128). -/
def execMrsOslsrEl1 (t : XReg) (s : State) : Host.Outcome State Fault Refusal :=
  runMrs Enc.oslsrEl1 t (tdosaChain true 9 true true true s)
    (fun _ => s.dbg.oslsr) s

/-- `MRS <Xt>, OSDLR_EL1` (41_debug_traps.md R129). -/
def execMrsOsdlrEl1 (t : XReg) (s : State) : Host.Outcome State Fault Refusal :=
  runMrs Enc.osdlrEl1 t (osdlrChain true s)
    (fun _ => s.dbg.osdlr) s

/-- `MSR OSDLR_EL1, <Xt>` (41_debug_traps.md R129). -/
def execMsrOsdlrEl1 (t : XReg) (s : State) : Host.Outcome State Fault Refusal :=
  runMsr Enc.osdlrEl1 t (osdlrChain false s)
    (fun _ v => { s with dbg := { s.dbg with osdlr := v } }) s

/-- `MRS <Xt>, DBGPRCR_EL1` (41_debug_traps.md R130). -/
def execMrsDbgprcrEl1 (t : XReg) (s : State) : Host.Outcome State Fault Refusal :=
  runMrs Enc.dbgprcrEl1 t (tdosaChain true 7 true true true s)
    (fun _ => s.dbg.dbgprcr) s

/-- `MSR DBGPRCR_EL1, <Xt>` (41_debug_traps.md R130). -/
def execMsrDbgprcrEl1 (t : XReg) (s : State) : Host.Outcome State Fault Refusal :=
  runMsr Enc.dbgprcrEl1 t (tdosaChain false 7 true true true s)
    (fun _ v => { s with dbg := { s.dbg with dbgprcr := v } }) s

end Sys2Proof.Machine
end

