-- ==== Sys2Proof/Machine/Direct.lean ====
section
/-! DEFINITION. The meanings of MDCR_EL2 and its AArch32 view HDCR (40_access.md R80 to R89):
one definition per instruction, over the chain of its register and the shared operation of its form. -/

namespace Sys2Proof.Machine

/-- `MRS <Xt>, MDCR_EL2` (40_access.md R80). -/
def execMrsMdcrEl2 (t : XReg) (s : State) : Host.Outcome State Fault Refusal :=
  runMrs Enc.mdcrEl2 t (mdcrChain s)
    (fun _ => s.mdcrRead) s

/-- `MSR MDCR_EL2, <Xt>` (40_access.md R81). -/
def execMsrMdcrEl2 (t : XReg) (s : State) : Host.Outcome State Fault Refusal :=
  runMsr Enc.mdcrEl2 t (mdcrChain s)
    (fun _ v => s.mdcrWrite v) s

/-- `MRC p15, 4, <Rt>, c1, c1, 1; HDCR` (40_access.md R84). -/
def execMrcHdcr (cond : Cond) (t : RReg) (s : State) : Host.Outcome State Fault Refusal :=
  runMrc cond Enc32.hdcr t (hdcrChain s)
    (fun _ => s.hdcrRead) s

/-- `MCR p15, 4, <Rt>, c1, c1, 1; HDCR` (40_access.md R85). -/
def execMcrHdcr (cond : Cond) (t : RReg) (s : State) : Host.Outcome State Fault Refusal :=
  runMcr cond Enc32.hdcr t (hdcrChain s)
    (fun _ v => s.hdcrWrite v) s

end Sys2Proof.Machine
end

