-- ==== Sys2Proof/Machine/PmuA32.lean ====
section
/-! DEFINITION. The meanings of the Performance Monitors registers by MRC and MCR (42_pmu_controls.md section 3):
one definition per instruction, over the chain of its register and the shared operation of its form. -/

namespace Sys2Proof.Machine

/-- `MRC p15, 0, <Rt>, c9, c12, 0; PMCR` (42_pmu_controls.md R168). -/
def execMrcPmcr (cond : Cond) (t : RReg) (s : State) : Host.Outcome State Fault Refusal :=
  runMrc cond Enc32.pmcr t (pmu32Chain s.cfg.havePMUv3 gateEN true none none true (.access 0) s)
    (fun _ => low32 s.pmcrRead) s

/-- `MCR p15, 0, <Rt>, c9, c12, 0; PMCR` (42_pmu_controls.md R168). -/
def execMcrPmcr (cond : Cond) (t : RReg) (s : State) : Host.Outcome State Fault Refusal :=
  runMcr cond Enc32.pmcr t (pmu32Chain s.cfg.havePMUv3 gateEN true (some (false, 21)) none true (.access 0) s)
    (fun _ v => s.pmcrWrite (withLow32 s.pmu.pmcr v)) s

/-- `MRC p15, 0, <Rt>, c9, c12, 1; PMCNTENSET` (42_pmu_controls.md R168). -/
def execMrcPmcntenset (cond : Cond) (t : RReg) (s : State) : Host.Outcome State Fault Refusal :=
  runMrc cond Enc32.pmcntenset t (pmu32Plain gateEN (some (true, 16)) s)
    (fun _ => low32 (s.pmu.pmcnten &&& s.visibleMask)) s

/-- `MCR p15, 0, <Rt>, c9, c12, 1; PMCNTENSET` (42_pmu_controls.md R168). -/
def execMcrPmcntenset (cond : Cond) (t : RReg) (s : State) : Host.Outcome State Fault Refusal :=
  runMcr cond Enc32.pmcntenset t (pmu32Plain gateEN (some (false, 16)) s)
    (fun _ v => { s with pmu := { s.pmu with pmcnten := s.maskSet s.pmu.pmcnten (zext64 v) } }) s

/-- `MRC p15, 0, <Rt>, c9, c12, 2; PMCNTENCLR` (42_pmu_controls.md R168). -/
def execMrcPmcntenclr (cond : Cond) (t : RReg) (s : State) : Host.Outcome State Fault Refusal :=
  runMrc cond Enc32.pmcntenclr t (pmu32Plain gateEN (some (true, 16)) s)
    (fun _ => low32 (s.pmu.pmcnten &&& s.visibleMask)) s

/-- `MCR p15, 0, <Rt>, c9, c12, 2; PMCNTENCLR` (42_pmu_controls.md R168). -/
def execMcrPmcntenclr (cond : Cond) (t : RReg) (s : State) : Host.Outcome State Fault Refusal :=
  runMcr cond Enc32.pmcntenclr t (pmu32Plain gateEN (some (false, 16)) s)
    (fun _ v => { s with pmu := { s.pmu with pmcnten := s.maskClear s.pmu.pmcnten (zext64 v) } }) s

/-- `MRC p15, 0, <Rt>, c9, c12, 3; PMOVSR` (42_pmu_controls.md R168). -/
def execMrcPmovsr (cond : Cond) (t : RReg) (s : State) : Host.Outcome State Fault Refusal :=
  runMrc cond Enc32.pmovsr t (pmu32Plain gateEN (some (true, 18)) s)
    (fun _ => low32 (s.pmu.pmovs &&& s.visibleMask)) s

/-- `MCR p15, 0, <Rt>, c9, c12, 3; PMOVSR` (42_pmu_controls.md R168). -/
def execMcrPmovsr (cond : Cond) (t : RReg) (s : State) : Host.Outcome State Fault Refusal :=
  runMcr cond Enc32.pmovsr t (pmu32Plain gateEN (some (false, 18)) s)
    (fun _ v => { s with pmu := { s.pmu with pmovs := s.maskClear s.pmu.pmovs (zext64 v) } }) s

/-- `MCR p15, 0, <Rt>, c9, c12, 4; PMSWINC` (42_pmu_controls.md R168). -/
def execMcrPmswinc (cond : Cond) (t : RReg) (s : State) : Host.Outcome State Fault Refusal :=
  runMcr cond Enc32.pmswinc t (pmu32Plain gateSW (some (false, 20)) s)
    (fun _ v => s.softwareIncrement (zext64 v)) s

/-- `MRC p15, 0, <Rt>, c9, c12, 5; PMSELR` (42_pmu_controls.md R168). -/
def execMrcPmselr (cond : Cond) (t : RReg) (s : State) : Host.Outcome State Fault Refusal :=
  runMrc cond Enc32.pmselr t (pmu32Plain gateER (some (true, 19)) s)
    (fun _ => low32 s.pmu.pmselr) s

/-- `MCR p15, 0, <Rt>, c9, c12, 5; PMSELR` (42_pmu_controls.md R168). -/
def execMcrPmselr (cond : Cond) (t : RReg) (s : State) : Host.Outcome State Fault Refusal :=
  runMcr cond Enc32.pmselr t (pmu32Plain gateER (some (false, 19)) s)
    (fun _ v => { s with pmu := { s.pmu with pmselr := withLow32 s.pmu.pmselr v } }) s

/-- `MRC p15, 0, <Rt>, c9, c12, 6; PMCEID0` (42_pmu_controls.md R168). -/
def execMrcPmceid0 (cond : Cond) (t : RReg) (s : State) : Host.Outcome State Fault Refusal :=
  runMrc cond Enc32.pmceid0 t (pmu32Plain gateEN none s)
    (fun _ => low32 s.pmu.pmceid0) s

/-- `MRC p15, 0, <Rt>, c9, c12, 7; PMCEID1` (42_pmu_controls.md R168). -/
def execMrcPmceid1 (cond : Cond) (t : RReg) (s : State) : Host.Outcome State Fault Refusal :=
  runMrc cond Enc32.pmceid1 t (pmu32Plain gateEN none s)
    (fun _ => low32 s.pmu.pmceid1) s

/-- `MRC p15, 0, <Rt>, c9, c14, 4; PMCEID2` (42_pmu_controls.md R168). -/
def execMrcPmceid2 (cond : Cond) (t : RReg) (s : State) : Host.Outcome State Fault Refusal :=
  runMrc cond Enc32.pmceid2 t (pmu32Chain (s.cfg.havePMUv3 && s.cfg.havePMUv3p1) gateEN true none none false (.access 0) s)
    (fun _ => s.pmu.pmceid0.extractLsb' 32 32) s

/-- `MRC p15, 0, <Rt>, c9, c14, 5; PMCEID3` (42_pmu_controls.md R168). -/
def execMrcPmceid3 (cond : Cond) (t : RReg) (s : State) : Host.Outcome State Fault Refusal :=
  runMrc cond Enc32.pmceid3 t (pmu32Chain (s.cfg.havePMUv3 && s.cfg.havePMUv3p1) gateEN true none none false (.access 0) s)
    (fun _ => s.pmu.pmceid1.extractLsb' 32 32) s

/-- `MRC p15, 0, <Rt>, c9, c13, 0; PMCCNTR` (42_pmu_controls.md R168). -/
def execMrcPmccntr (cond : Cond) (t : RReg) (s : State) : Host.Outcome State Fault Refusal :=
  runMrc cond Enc32.pmccntr t (pmu32Plain gateCR (some (true, 15)) s)
    (fun _ => low32 s.pmu.pmccntr) s

/-- `MCR p15, 0, <Rt>, c9, c13, 0; PMCCNTR` (42_pmu_controls.md R168). -/
def execMcrPmccntr (cond : Cond) (t : RReg) (s : State) : Host.Outcome State Fault Refusal :=
  runMcr cond Enc32.pmccntr t (pmu32Plain gateEN (some (false, 15)) s)
    (fun _ v => { s with pmu := { s.pmu with pmccntr := withLow32 s.pmu.pmccntr v } }) s

/-- `MRC p15, 0, <Rt>, c9, c13, 1; PMXEVTYPER` (42_pmu_controls.md R168). -/
def execMrcPmxevtyper (cond : Cond) (t : RReg) (s : State) : Host.Outcome State Fault Refusal :=
  runMrc cond Enc32.pmxevtyper t (counter32Chain gateEN true (true, 13) s.pmselrSel true true s)
    (fun k => low32 (s.typeRead k)) s

/-- `MCR p15, 0, <Rt>, c9, c13, 1; PMXEVTYPER` (42_pmu_controls.md R168). -/
def execMcrPmxevtyper (cond : Cond) (t : RReg) (s : State) : Host.Outcome State Fault Refusal :=
  runMcr cond Enc32.pmxevtyper t (counter32Chain gateEN true (false, 13) s.pmselrSel true true s)
    (fun k v => s.typeWrite k (withLow32 (s.typeRead k) v)) s

/-- `MRC p15, 0, <Rt>, c9, c13, 2; PMXEVCNTR` (42_pmu_controls.md R168). -/
def execMrcPmxevcntr (cond : Cond) (t : RReg) (s : State) : Host.Outcome State Fault Refusal :=
  runMrc cond Enc32.pmxevcntr t (counter32Chain gateER true (true, 12) s.pmselrSel true false s)
    (fun k => low32 (vget s.pmu.evcntr k)) s

/-- `MCR p15, 0, <Rt>, c9, c13, 2; PMXEVCNTR` (42_pmu_controls.md R168). -/
def execMcrPmxevcntr (cond : Cond) (t : RReg) (s : State) : Host.Outcome State Fault Refusal :=
  runMcr cond Enc32.pmxevcntr t (counter32Chain gateEN true (false, 12) s.pmselrSel true false s)
    (fun k v => s.counterWrite k (withLow32 (vget s.pmu.evcntr k) v)) s

/-- `MRC p15, 0, <Rt>, c9, c14, 0; PMUSERENR` (42_pmu_controls.md R168). -/
def execMrcPmuserenr (cond : Cond) (t : RReg) (s : State) : Host.Outcome State Fault Refusal :=
  runMrc cond Enc32.pmuserenr t (pmu32Plain .open (some (true, 57)) s)
    (fun _ => low32 s.pmu.pmuserenr) s

/-- `MCR p15, 0, <Rt>, c9, c14, 0; PMUSERENR` (42_pmu_controls.md R168). -/
def execMcrPmuserenr (cond : Cond) (t : RReg) (s : State) : Host.Outcome State Fault Refusal :=
  runMcr cond Enc32.pmuserenr t (pmu32Plain .undefinedAtEl0 (some (false, 57)) s)
    (fun _ v => { s with pmu := { s.pmu with pmuserenr := withLow32 s.pmu.pmuserenr v } }) s

/-- `MRC p15, 0, <Rt>, c9, c14, 1; PMINTENSET` (42_pmu_controls.md R168). -/
def execMrcPmintenset (cond : Cond) (t : RReg) (s : State) : Host.Outcome State Fault Refusal :=
  runMrc cond Enc32.pmintenset t (pmu32Plain .undefinedAtEl0 (some (true, 17)) s)
    (fun _ => low32 (s.pmu.pminten &&& s.visibleMask)) s

/-- `MCR p15, 0, <Rt>, c9, c14, 1; PMINTENSET` (42_pmu_controls.md R168). -/
def execMcrPmintenset (cond : Cond) (t : RReg) (s : State) : Host.Outcome State Fault Refusal :=
  runMcr cond Enc32.pmintenset t (pmu32Plain .undefinedAtEl0 (some (false, 17)) s)
    (fun _ v => { s with pmu := { s.pmu with pminten := s.maskSet s.pmu.pminten (zext64 v) } }) s

/-- `MRC p15, 0, <Rt>, c9, c14, 2; PMINTENCLR` (42_pmu_controls.md R168). -/
def execMrcPmintenclr (cond : Cond) (t : RReg) (s : State) : Host.Outcome State Fault Refusal :=
  runMrc cond Enc32.pmintenclr t (pmu32Plain .undefinedAtEl0 (some (true, 17)) s)
    (fun _ => low32 (s.pmu.pminten &&& s.visibleMask)) s

/-- `MCR p15, 0, <Rt>, c9, c14, 2; PMINTENCLR` (42_pmu_controls.md R168). -/
def execMcrPmintenclr (cond : Cond) (t : RReg) (s : State) : Host.Outcome State Fault Refusal :=
  runMcr cond Enc32.pmintenclr t (pmu32Plain .undefinedAtEl0 (some (false, 17)) s)
    (fun _ v => { s with pmu := { s.pmu with pminten := s.maskClear s.pmu.pminten (zext64 v) } }) s

/-- `MRC p15, 0, <Rt>, c9, c14, 3; PMOVSSET` (42_pmu_controls.md R168). -/
def execMrcPmovsset (cond : Cond) (t : RReg) (s : State) : Host.Outcome State Fault Refusal :=
  runMrc cond Enc32.pmovsset t (pmu32Plain gateEN (some (true, 18)) s)
    (fun _ => low32 (s.pmu.pmovs &&& s.visibleMask)) s

/-- `MCR p15, 0, <Rt>, c9, c14, 3; PMOVSSET` (42_pmu_controls.md R168). -/
def execMcrPmovsset (cond : Cond) (t : RReg) (s : State) : Host.Outcome State Fault Refusal :=
  runMcr cond Enc32.pmovsset t (pmu32Plain gateEN (some (false, 18)) s)
    (fun _ v => { s with pmu := { s.pmu with pmovs := s.maskSet s.pmu.pmovs (zext64 v) } }) s

/-- `MRC p15, 0, <Rt>, c9, c14, 6; PMMIR` (42_pmu_controls.md R168). -/
def execMrcPmmir (cond : Cond) (t : RReg) (s : State) : Host.Outcome State Fault Refusal :=
  runMrc cond Enc32.pmmir t (pmu32Chain (s.cfg.havePMUv3 && s.cfg.havePMUv3p4) .undefinedAtEl0 true (some (true, 22)) none false (.access 0) s)
    (fun _ => low32 s.pmu.pmmir) s

/-- `MRC p15, 0, <Rt>, c14, c15, 7; PMCCFILTR` (42_pmu_controls.md R168). -/
def execMrcPmccfiltr (cond : Cond) (t : RReg) (s : State) : Host.Outcome State Fault Refusal :=
  runMrc cond Enc32.pmccfiltr t (pmu32Chain s.cfg.havePMUv3 gateEN false (some (true, 14)) none false (.access 0) s)
    (fun _ => low32 s.pmu.pmccfiltr) s

/-- `MCR p15, 0, <Rt>, c14, c15, 7; PMCCFILTR` (42_pmu_controls.md R168). -/
def execMcrPmccfiltr (cond : Cond) (t : RReg) (s : State) : Host.Outcome State Fault Refusal :=
  runMcr cond Enc32.pmccfiltr t (pmu32Chain s.cfg.havePMUv3 gateEN false (some (false, 14)) none false (.access 0) s)
    (fun _ v => { s with pmu := { s.pmu with pmccfiltr := withLow32 s.pmu.pmccfiltr v } }) s

/-- `MRC p15, 0, <Rt>, c14, c8+n[4:3], n[2:0]; PMEVCNTR<n>` (42_pmu_controls.md R168). -/
def execMrcPmevcntr (cond : Cond) (n : BitVec 5) (t : RReg) (s : State) : Host.Outcome State Fault Refusal :=
  runMrc cond (Enc32.pmevcntr n) t (counter32Chain gateER false (true, 12) n.toNat false false s)
    (fun k => low32 (vget s.pmu.evcntr k)) s

/-- `MCR p15, 0, <Rt>, c14, c8+n[4:3], n[2:0]; PMEVCNTR<n>` (42_pmu_controls.md R168). -/
def execMcrPmevcntr (cond : Cond) (n : BitVec 5) (t : RReg) (s : State) : Host.Outcome State Fault Refusal :=
  runMcr cond (Enc32.pmevcntr n) t (counter32Chain gateEN false (false, 12) n.toNat false false s)
    (fun k v => s.counterWrite k (withLow32 (vget s.pmu.evcntr k) v)) s

/-- `MRC p15, 0, <Rt>, c14, c12+n[4:3], n[2:0]; PMEVTYPER<n>` (42_pmu_controls.md R168). -/
def execMrcPmevtyper (cond : Cond) (n : BitVec 5) (t : RReg) (s : State) : Host.Outcome State Fault Refusal :=
  runMrc cond (Enc32.pmevtyper n) t (counter32Chain gateEN false (true, 13) n.toNat false true s)
    (fun k => low32 (vget s.pmu.evtyper k)) s

/-- `MCR p15, 0, <Rt>, c14, c12+n[4:3], n[2:0]; PMEVTYPER<n>` (42_pmu_controls.md R168). -/
def execMcrPmevtyper (cond : Cond) (n : BitVec 5) (t : RReg) (s : State) : Host.Outcome State Fault Refusal :=
  runMcr cond (Enc32.pmevtyper n) t (counter32Chain gateEN false (false, 13) n.toNat false true s)
    (fun k v => { s with pmu := { s.pmu with evtyper := vset s.pmu.evtyper k (withLow32 (vget s.pmu.evtyper k) v) } }) s

end Sys2Proof.Machine
end

