-- ==== Sys2Proof/Machine/PmuA64.lean ====
section
/-! DEFINITION. The meanings of the Performance Monitors registers by MRS and MSR (42_pmu_controls.md section 2):
one definition per instruction, over the chain of its register and the shared operation of its form. -/

namespace Sys2Proof.Machine

/-- `MRS <Xt>, PMCR_EL0` (42_pmu_controls.md R152). -/
def execMrsPmcrEl0 (t : XReg) (s : State) : Host.Outcome State Fault Refusal :=
  runMrs Enc.pmcrEl0 t (pmuChain s.cfg.havePMUv3 gateEN none none true (.access 0) s)
    (fun _ => s.pmcrRead) s

/-- `MSR PMCR_EL0, <Xt>` (42_pmu_controls.md R152). -/
def execMsrPmcrEl0 (t : XReg) (s : State) : Host.Outcome State Fault Refusal :=
  runMsr Enc.pmcrEl0 t (pmuChain s.cfg.havePMUv3 gateEN (some (false, 21)) none true (.access 0) s)
    (fun _ v => s.pmcrWrite v) s

/-- `MRS <Xt>, PMCNTENSET_EL0` (42_pmu_controls.md R153). -/
def execMrsPmcntensetEl0 (t : XReg) (s : State) : Host.Outcome State Fault Refusal :=
  runMrs Enc.pmcntensetEl0 t (pmuPlain gateEN (some (true, 16)) s)
    (fun _ => s.pmu.pmcnten &&& s.visibleMask) s

/-- `MSR PMCNTENSET_EL0, <Xt>` (42_pmu_controls.md R153). -/
def execMsrPmcntensetEl0 (t : XReg) (s : State) : Host.Outcome State Fault Refusal :=
  runMsr Enc.pmcntensetEl0 t (pmuPlain gateEN (some (false, 16)) s)
    (fun _ v => { s with pmu := { s.pmu with pmcnten := s.maskSet s.pmu.pmcnten v } }) s

/-- `MRS <Xt>, PMCNTENCLR_EL0` (42_pmu_controls.md R154). -/
def execMrsPmcntenclrEl0 (t : XReg) (s : State) : Host.Outcome State Fault Refusal :=
  runMrs Enc.pmcntenclrEl0 t (pmuPlain gateEN (some (true, 16)) s)
    (fun _ => s.pmu.pmcnten &&& s.visibleMask) s

/-- `MSR PMCNTENCLR_EL0, <Xt>` (42_pmu_controls.md R154). -/
def execMsrPmcntenclrEl0 (t : XReg) (s : State) : Host.Outcome State Fault Refusal :=
  runMsr Enc.pmcntenclrEl0 t (pmuPlain gateEN (some (false, 16)) s)
    (fun _ v => { s with pmu := { s.pmu with pmcnten := s.maskClear s.pmu.pmcnten v } }) s

/-- `MRS <Xt>, PMOVSCLR_EL0` (42_pmu_controls.md R155). -/
def execMrsPmovsclrEl0 (t : XReg) (s : State) : Host.Outcome State Fault Refusal :=
  runMrs Enc.pmovsclrEl0 t (pmuPlain gateEN (some (true, 18)) s)
    (fun _ => s.pmu.pmovs &&& s.visibleMask) s

/-- `MSR PMOVSCLR_EL0, <Xt>` (42_pmu_controls.md R155). -/
def execMsrPmovsclrEl0 (t : XReg) (s : State) : Host.Outcome State Fault Refusal :=
  runMsr Enc.pmovsclrEl0 t (pmuPlain gateEN (some (false, 18)) s)
    (fun _ v => { s with pmu := { s.pmu with pmovs := s.maskClear s.pmu.pmovs v } }) s

/-- `MSR PMSWINC_EL0, <Xt>` (42_pmu_controls.md R156). -/
def execMsrPmswincEl0 (t : XReg) (s : State) : Host.Outcome State Fault Refusal :=
  runMsr Enc.pmswincEl0 t (pmuPlain gateSW (some (false, 20)) s)
    (fun _ v => s.softwareIncrement v) s

/-- `MRS <Xt>, PMSELR_EL0` (42_pmu_controls.md R157). -/
def execMrsPmselrEl0 (t : XReg) (s : State) : Host.Outcome State Fault Refusal :=
  runMrs Enc.pmselrEl0 t (pmuPlain gateER (some (true, 19)) s)
    (fun _ => s.pmu.pmselr) s

/-- `MSR PMSELR_EL0, <Xt>` (42_pmu_controls.md R157). -/
def execMsrPmselrEl0 (t : XReg) (s : State) : Host.Outcome State Fault Refusal :=
  runMsr Enc.pmselrEl0 t (pmuPlain gateER (some (false, 19)) s)
    (fun _ v => { s with pmu := { s.pmu with pmselr := v } }) s

/-- `MRS <Xt>, PMCEID0_EL0` (42_pmu_controls.md R158). -/
def execMrsPmceid0El0 (t : XReg) (s : State) : Host.Outcome State Fault Refusal :=
  runMrs Enc.pmceid0El0 t (pmuPlain gateEN none s)
    (fun _ => s.pmu.pmceid0) s

/-- `MRS <Xt>, PMCEID1_EL0` (42_pmu_controls.md R158). -/
def execMrsPmceid1El0 (t : XReg) (s : State) : Host.Outcome State Fault Refusal :=
  runMrs Enc.pmceid1El0 t (pmuPlain gateEN none s)
    (fun _ => s.pmu.pmceid1) s

/-- `MRS <Xt>, PMCCNTR_EL0` (42_pmu_controls.md R159). -/
def execMrsPmccntrEl0 (t : XReg) (s : State) : Host.Outcome State Fault Refusal :=
  runMrs Enc.pmccntrEl0 t (pmuPlain gateCR (some (true, 15)) s)
    (fun _ => s.pmu.pmccntr) s

/-- `MSR PMCCNTR_EL0, <Xt>` (42_pmu_controls.md R159). -/
def execMsrPmccntrEl0 (t : XReg) (s : State) : Host.Outcome State Fault Refusal :=
  runMsr Enc.pmccntrEl0 t (pmuPlain gateEN (some (false, 15)) s)
    (fun _ v => { s with pmu := { s.pmu with pmccntr := v } }) s

/-- `MRS <Xt>, PMXEVTYPER_EL0` (42_pmu_controls.md R160). -/
def execMrsPmxevtyperEl0 (t : XReg) (s : State) : Host.Outcome State Fault Refusal :=
  runMrs Enc.pmxevtyperEl0 t (counterChain gateEN (true, 13) s.pmselrSel true true s)
    (fun k => s.typeRead k) s

/-- `MSR PMXEVTYPER_EL0, <Xt>` (42_pmu_controls.md R160). -/
def execMsrPmxevtyperEl0 (t : XReg) (s : State) : Host.Outcome State Fault Refusal :=
  runMsr Enc.pmxevtyperEl0 t (counterChain gateEN (false, 13) s.pmselrSel true true s)
    (fun k v => s.typeWrite k v) s

/-- `MRS <Xt>, PMXEVCNTR_EL0` (42_pmu_controls.md R161). -/
def execMrsPmxevcntrEl0 (t : XReg) (s : State) : Host.Outcome State Fault Refusal :=
  runMrs Enc.pmxevcntrEl0 t (counterChain gateER (true, 12) s.pmselrSel true false s)
    (fun k => vget s.pmu.evcntr k) s

/-- `MSR PMXEVCNTR_EL0, <Xt>` (42_pmu_controls.md R161). -/
def execMsrPmxevcntrEl0 (t : XReg) (s : State) : Host.Outcome State Fault Refusal :=
  runMsr Enc.pmxevcntrEl0 t (counterChain gateEN (false, 12) s.pmselrSel true false s)
    (fun k v => s.counterWrite k v) s

/-- `MRS <Xt>, PMUSERENR_EL0` (42_pmu_controls.md R162). -/
def execMrsPmuserenrEl0 (t : XReg) (s : State) : Host.Outcome State Fault Refusal :=
  runMrs Enc.pmuserenrEl0 t (pmuPlain .open (some (true, 57)) s)
    (fun _ => s.pmu.pmuserenr) s

/-- `MSR PMUSERENR_EL0, <Xt>` (42_pmu_controls.md R162). -/
def execMsrPmuserenrEl0 (t : XReg) (s : State) : Host.Outcome State Fault Refusal :=
  runMsr Enc.pmuserenrEl0 t (pmuPlain .undefinedAtEl0 (some (false, 57)) s)
    (fun _ v => { s with pmu := { s.pmu with pmuserenr := v } }) s

/-- `MRS <Xt>, PMOVSSET_EL0` (42_pmu_controls.md R155). -/
def execMrsPmovssetEl0 (t : XReg) (s : State) : Host.Outcome State Fault Refusal :=
  runMrs Enc.pmovssetEl0 t (pmuPlain gateEN (some (true, 18)) s)
    (fun _ => s.pmu.pmovs &&& s.visibleMask) s

/-- `MSR PMOVSSET_EL0, <Xt>` (42_pmu_controls.md R155). -/
def execMsrPmovssetEl0 (t : XReg) (s : State) : Host.Outcome State Fault Refusal :=
  runMsr Enc.pmovssetEl0 t (pmuPlain gateEN (some (false, 18)) s)
    (fun _ v => { s with pmu := { s.pmu with pmovs := s.maskSet s.pmu.pmovs v } }) s

/-- `MRS <Xt>, PMINTENSET_EL1` (42_pmu_controls.md R163). -/
def execMrsPmintensetEl1 (t : XReg) (s : State) : Host.Outcome State Fault Refusal :=
  runMrs Enc.pmintensetEl1 t (pmuPlain .undefinedAtEl0 (some (true, 17)) s)
    (fun _ => s.pmu.pminten &&& s.visibleMask) s

/-- `MSR PMINTENSET_EL1, <Xt>` (42_pmu_controls.md R163). -/
def execMsrPmintensetEl1 (t : XReg) (s : State) : Host.Outcome State Fault Refusal :=
  runMsr Enc.pmintensetEl1 t (pmuPlain .undefinedAtEl0 (some (false, 17)) s)
    (fun _ v => { s with pmu := { s.pmu with pminten := s.maskSet s.pmu.pminten v } }) s

/-- `MRS <Xt>, PMINTENCLR_EL1` (42_pmu_controls.md R163). -/
def execMrsPmintenclrEl1 (t : XReg) (s : State) : Host.Outcome State Fault Refusal :=
  runMrs Enc.pmintenclrEl1 t (pmuPlain .undefinedAtEl0 (some (true, 17)) s)
    (fun _ => s.pmu.pminten &&& s.visibleMask) s

/-- `MSR PMINTENCLR_EL1, <Xt>` (42_pmu_controls.md R163). -/
def execMsrPmintenclrEl1 (t : XReg) (s : State) : Host.Outcome State Fault Refusal :=
  runMsr Enc.pmintenclrEl1 t (pmuPlain .undefinedAtEl0 (some (false, 17)) s)
    (fun _ v => { s with pmu := { s.pmu with pminten := s.maskClear s.pmu.pminten v } }) s

/-- `MRS <Xt>, PMMIR_EL1` (42_pmu_controls.md R164). -/
def execMrsPmmirEl1 (t : XReg) (s : State) : Host.Outcome State Fault Refusal :=
  runMrs Enc.pmmirEl1 t (pmuChain (s.cfg.havePMUv3 && s.cfg.havePMUv3p4) .undefinedAtEl0 (some (true, 22)) none false (.access 0) s)
    (fun _ => s.pmu.pmmir) s

/-- `MRS <Xt>, PMCCFILTR_EL0` (42_pmu_controls.md R159). -/
def execMrsPmccfiltrEl0 (t : XReg) (s : State) : Host.Outcome State Fault Refusal :=
  runMrs Enc.pmccfiltrEl0 t (pmuPlain gateEN (some (true, 14)) s)
    (fun _ => s.pmu.pmccfiltr) s

/-- `MSR PMCCFILTR_EL0, <Xt>` (42_pmu_controls.md R159). -/
def execMsrPmccfiltrEl0 (t : XReg) (s : State) : Host.Outcome State Fault Refusal :=
  runMsr Enc.pmccfiltrEl0 t (pmuPlain gateEN (some (false, 14)) s)
    (fun _ v => { s with pmu := { s.pmu with pmccfiltr := v } }) s

/-- `MRS <Xt>, PMEVCNTR<n>_EL0` (42_pmu_controls.md R165). -/
def execMrsPmevcntrEl0 (n : BitVec 5) (t : XReg) (s : State) : Host.Outcome State Fault Refusal :=
  runMrs (Enc.pmevcntrEl0 n) t (counterChain gateER (true, 12) n.toNat false false s)
    (fun k => vget s.pmu.evcntr k) s

/-- `MSR PMEVCNTR<n>_EL0, <Xt>` (42_pmu_controls.md R165). -/
def execMsrPmevcntrEl0 (n : BitVec 5) (t : XReg) (s : State) : Host.Outcome State Fault Refusal :=
  runMsr (Enc.pmevcntrEl0 n) t (counterChain gateEN (false, 12) n.toNat false false s)
    (fun k v => s.counterWrite k v) s

/-- `MRS <Xt>, PMEVTYPER<n>_EL0` (42_pmu_controls.md R166). -/
def execMrsPmevtyperEl0 (n : BitVec 5) (t : XReg) (s : State) : Host.Outcome State Fault Refusal :=
  runMrs (Enc.pmevtyperEl0 n) t (counterChain gateEN (true, 13) n.toNat false true s)
    (fun k => vget s.pmu.evtyper k) s

/-- `MSR PMEVTYPER<n>_EL0, <Xt>` (42_pmu_controls.md R166). -/
def execMsrPmevtyperEl0 (n : BitVec 5) (t : XReg) (s : State) : Host.Outcome State Fault Refusal :=
  runMsr (Enc.pmevtyperEl0 n) t (counterChain gateEN (false, 13) n.toNat false true s)
    (fun k v => { s with pmu := { s.pmu with evtyper := vset s.pmu.evtyper k v } }) s

end Sys2Proof.Machine
end

