-- ==== Sys2Proof/Machine/SpeA64.lean ====
section
/-! DEFINITION. The meanings of the Statistical Profiling and trace filter registers (43_spe_trace.md):
one definition per instruction, over the chain of its register and the shared operation of its form. -/

namespace Sys2Proof.Machine

/-- `MRS <Xt>, PMSCR_EL1` (43_spe_trace.md R210). -/
def execMrsPmscrEl1 (t : XReg) (s : State) : Host.Outcome State Fault Refusal :=
  runMrs Enc.pmscrEl1 t (tpmsChain true 26 (nvThen s.nvAll 0x828) s)
    (fun _ => s.pmscrRead) s

/-- `MSR PMSCR_EL1, <Xt>` (43_spe_trace.md R210). -/
def execMsrPmscrEl1 (t : XReg) (s : State) : Host.Outcome State Fault Refusal :=
  runMsr Enc.pmscrEl1 t (tpmsChain false 26 (nvThen s.nvAll 0x828) s)
    (fun _ v => s.pmscrWrite v) s

/-- `MRS <Xt>, PMSICR_EL1` (43_spe_trace.md R211). -/
def execMrsPmsicrEl1 (t : XReg) (s : State) : Host.Outcome State Fault Refusal :=
  runMrs Enc.pmsicrEl1 t (tpmsChain true 29 (nvThen s.nvAny 0x838) s)
    (fun _ => s.spe.pmsicr) s

/-- `MSR PMSICR_EL1, <Xt>` (43_spe_trace.md R211). -/
def execMsrPmsicrEl1 (t : XReg) (s : State) : Host.Outcome State Fault Refusal :=
  runMsr Enc.pmsicrEl1 t (tpmsChain false 29 (nvThen s.nvAny 0x838) s)
    (fun _ v => { s with spe := { s.spe with pmsicr := v } }) s

/-- `MRS <Xt>, PMSIRR_EL1` (43_spe_trace.md R212). -/
def execMrsPmsirrEl1 (t : XReg) (s : State) : Host.Outcome State Fault Refusal :=
  runMrs Enc.pmsirrEl1 t (tpmsChain true 31 (nvThen s.nvAny 0x840) s)
    (fun _ => s.spe.pmsirr) s

/-- `MSR PMSIRR_EL1, <Xt>` (43_spe_trace.md R212). -/
def execMsrPmsirrEl1 (t : XReg) (s : State) : Host.Outcome State Fault Refusal :=
  runMsr Enc.pmsirrEl1 t (tpmsChain false 31 (nvThen s.nvAny 0x840) s)
    (fun _ v => { s with spe := { s.spe with pmsirr := v } }) s

/-- `MRS <Xt>, PMSFCR_EL1` (43_spe_trace.md R213). -/
def execMrsPmsfcrEl1 (t : XReg) (s : State) : Host.Outcome State Fault Refusal :=
  runMrs Enc.pmsfcrEl1 t (tpmsChain true 28 (.access 0) s)
    (fun _ => s.spe.pmsfcr) s

/-- `MSR PMSFCR_EL1, <Xt>` (43_spe_trace.md R213). -/
def execMsrPmsfcrEl1 (t : XReg) (s : State) : Host.Outcome State Fault Refusal :=
  runMsr Enc.pmsfcrEl1 t (tpmsChain false 28 (.access 0) s)
    (fun _ v => { s with spe := { s.spe with pmsfcr := v } }) s

/-- `MRS <Xt>, PMSEVFR_EL1` (43_spe_trace.md R214). -/
def execMrsPmsevfrEl1 (t : XReg) (s : State) : Host.Outcome State Fault Refusal :=
  runMrs Enc.pmsevfrEl1 t (tpmsChain true 27 (nvThen s.nvAny 0x830) s)
    (fun _ => s.spe.pmsevfr) s

/-- `MSR PMSEVFR_EL1, <Xt>` (43_spe_trace.md R214). -/
def execMsrPmsevfrEl1 (t : XReg) (s : State) : Host.Outcome State Fault Refusal :=
  runMsr Enc.pmsevfrEl1 t (tpmsChain false 27 (nvThen s.nvAny 0x830) s)
    (fun _ v => { s with spe := { s.spe with pmsevfr := v } }) s

/-- `MRS <Xt>, PMSLATFR_EL1` (43_spe_trace.md R215). -/
def execMrsPmslatfrEl1 (t : XReg) (s : State) : Host.Outcome State Fault Refusal :=
  runMrs Enc.pmslatfrEl1 t (tpmsChain true 32 (nvThen s.nvAny 0x848) s)
    (fun _ => s.spe.pmslatfr) s

/-- `MSR PMSLATFR_EL1, <Xt>` (43_spe_trace.md R215). -/
def execMsrPmslatfrEl1 (t : XReg) (s : State) : Host.Outcome State Fault Refusal :=
  runMsr Enc.pmslatfrEl1 t (tpmsChain false 32 (nvThen s.nvAny 0x848) s)
    (fun _ v => { s with spe := { s.spe with pmslatfr := v } }) s

/-- `MRS <Xt>, PMSIDR_EL1` (43_spe_trace.md R216). -/
def execMrsPmsidrEl1 (t : XReg) (s : State) : Host.Outcome State Fault Refusal :=
  runMrs Enc.pmsidrEl1 t (tpmsChain true 30 (.access 0) s)
    (fun _ => s.spe.pmsidr) s

/-- `MRS <Xt>, PMBLIMITR_EL1` (43_spe_trace.md R217). -/
def execMrsPmblimitrEl1 (t : XReg) (s : State) : Host.Outcome State Fault Refusal :=
  runMrs Enc.pmblimitrEl1 t (pmbChain true 23 0x800 s)
    (fun _ => s.spe.pmblimitr) s

/-- `MSR PMBLIMITR_EL1, <Xt>` (43_spe_trace.md R217). -/
def execMsrPmblimitrEl1 (t : XReg) (s : State) : Host.Outcome State Fault Refusal :=
  runMsr Enc.pmblimitrEl1 t (pmbChain false 23 0x800 s)
    (fun _ v => { s with spe := { s.spe with pmblimitr := v } }) s

/-- `MRS <Xt>, PMBPTR_EL1` (43_spe_trace.md R218). -/
def execMrsPmbptrEl1 (t : XReg) (s : State) : Host.Outcome State Fault Refusal :=
  runMrs Enc.pmbptrEl1 t (pmbChain true 24 0x810 s)
    (fun _ => s.spe.pmbptr) s

/-- `MSR PMBPTR_EL1, <Xt>` (43_spe_trace.md R218). -/
def execMsrPmbptrEl1 (t : XReg) (s : State) : Host.Outcome State Fault Refusal :=
  runMsr Enc.pmbptrEl1 t (pmbChain false 24 0x810 s)
    (fun _ v => { s with spe := { s.spe with pmbptr := v } }) s

/-- `MRS <Xt>, PMBSR_EL1` (43_spe_trace.md R219). -/
def execMrsPmbsrEl1 (t : XReg) (s : State) : Host.Outcome State Fault Refusal :=
  runMrs Enc.pmbsrEl1 t (pmbChain true 25 0x820 s)
    (fun _ => s.spe.pmbsr) s

/-- `MSR PMBSR_EL1, <Xt>` (43_spe_trace.md R219). -/
def execMsrPmbsrEl1 (t : XReg) (s : State) : Host.Outcome State Fault Refusal :=
  runMsr Enc.pmbsrEl1 t (pmbChain false 25 0x820 s)
    (fun _ v => { s with spe := { s.spe with pmbsr := v } }) s

/-- `MRS <Xt>, PMBIDR_EL1` (43_spe_trace.md R207). -/
def execMrsPmbidrEl1 (t : XReg) (s : State) : Host.Outcome State Fault Refusal :=
  runMrs Enc.pmbidrEl1 t (pmbidrChain s)
    (fun _ => s.pmbidrRead) s

/-- `MRS <Xt>, TRFCR_EL1` (43_spe_trace.md R208). -/
def execMrsTrfcrEl1 (t : XReg) (s : State) : Host.Outcome State Fault Refusal :=
  runMrs Enc.trfcrEl1 t (trfcrChain true s)
    (fun _ => s.trfcrRead) s

/-- `MSR TRFCR_EL1, <Xt>` (43_spe_trace.md R208). -/
def execMsrTrfcrEl1 (t : XReg) (s : State) : Host.Outcome State Fault Refusal :=
  runMsr Enc.trfcrEl1 t (trfcrChain false s)
    (fun _ v => s.trfcrWrite v) s

/-- `MRC p15, 0, <Rt>, c1, c2, 1; TRFCR` (43_spe_trace.md R209). -/
def execMrcTrfcr (cond : Cond) (t : RReg) (s : State) : Host.Outcome State Fault Refusal :=
  runMrc cond Enc32.trfcr t (trfcr32Chain s)
    (fun _ => low32 s.spe.trfcrEl1) s

/-- `MCR p15, 0, <Rt>, c1, c2, 1; TRFCR` (43_spe_trace.md R209). -/
def execMcrTrfcr (cond : Cond) (t : RReg) (s : State) : Host.Outcome State Fault Refusal :=
  runMcr cond Enc32.trfcr t (trfcr32Chain s)
    (fun _ v => { s with spe := { s.spe with trfcrEl1 := withLow32 s.spe.trfcrEl1 v } }) s

end Sys2Proof.Machine
end

