-- ==== Sys2Proof/Machine/Transfers.lean ====
section
/-! DEFINITION. The meanings of the 64-bit transfers MRRC and MCRR, and LDC and STC (41_debug_traps.md R134, R136; 42_pmu_controls.md R168):
one definition per instruction, over the chain of its register and the shared operation of its form. -/

namespace Sys2Proof.Machine

/-- `MRRC p14, 0, <Rt>, <Rt2>, c1; DBGDRAR` (41_debug_traps.md R134). -/
def execMrrcDbgdrar (cond : Cond) (t t2 : RReg) (s : State) : Host.Outcome State Fault Refusal :=
  runMrrc cond Enc64.dbgdrar t t2 (tdra32Chain s) s.dbg.mdrar s

/-- `MRRC p14, 0, <Rt>, <Rt2>, c2; DBGDSAR` (41_debug_traps.md R134). -/
def execMrrcDbgdsar (cond : Cond) (t t2 : RReg) (s : State) : Host.Outcome State Fault Refusal :=
  runMrrc cond Enc64.dbgdsar t t2 (tdra32Chain s) s.dbg.dbgdsar s

/-- `MRRC p15, 0, <Rt>, <Rt2>, c9; PMCCNTR` (42_pmu_controls.md R168). -/
def execMrrcPmccntr (cond : Cond) (t t2 : RReg) (s : State) : Host.Outcome State Fault Refusal :=
  runMrrc cond Enc64.pmccntr t t2 (pmu32Plain gateCR (some (true, 15)) s) s.pmu.pmccntr s

/-- `MCRR p15, 0, <Rt>, <Rt2>, c9; PMCCNTR` (42_pmu_controls.md R168). -/
def execMcrrPmccntr (cond : Cond) (t t2 : RReg) (s : State) : Host.Outcome State Fault Refusal :=
  runMcrr cond Enc64.pmccntr t t2 (pmu32Plain gateEN (some (false, 15)) s)
    (fun v => { s with pmu := { s.pmu with pmccntr := v } }) s

/-- `LDC p14, c5, [<Rn>...]` (41_debug_traps.md R136). -/
def execLdcDbgdtrtxint (cond : Cond) (p u w : Bool) (rn : RReg) (imm8 : BitVec 8) (s : State) :
    Host.Outcome State Fault Refusal :=
  runLdc cond ⟨p, u, w, rn, imm8⟩ (dtr32Chain s) (fun v s1 => s1.dtrTxWrite v) s

/-- `STC p14, c5, [<Rn>...]` (41_debug_traps.md R136). -/
def execStcDbgdtrrxint (cond : Cond) (p u w : Bool) (rn : RReg) (imm8 : BitVec 8) (s : State) :
    Host.Outcome State Fault Refusal :=
  runStc cond ⟨p, u, w, rn, imm8⟩ (dtr32Chain s) s.dbg.dtrRx State.dtrRxTaken s

end Sys2Proof.Machine
end

