-- ==== Sys2Proof/Machine/Dispatch.lean ====
section
/-! DEFINITION. The dispatch: one arm per instruction, each one call of its meaning. -/

namespace Sys2Proof.Machine

def exec (i : Instr) (s : State) : Host.Outcome State Fault Refusal :=
  match i with
  | .mrsMdcrEl2 t => Sys2Proof.Machine.execMrsMdcrEl2 t s
  | .msrMdcrEl2 t => Sys2Proof.Machine.execMsrMdcrEl2 t s
  | .mrsMdccsrEl0 t => Sys2Proof.Machine.execMrsMdccsrEl0 t s
  | .mrsMdccintEl1 t => Sys2Proof.Machine.execMrsMdccintEl1 t s
  | .msrMdccintEl1 t => Sys2Proof.Machine.execMsrMdccintEl1 t s
  | .mrsOsdtrrxEl1 t => Sys2Proof.Machine.execMrsOsdtrrxEl1 t s
  | .msrOsdtrrxEl1 t => Sys2Proof.Machine.execMsrOsdtrrxEl1 t s
  | .mrsOsdtrtxEl1 t => Sys2Proof.Machine.execMrsOsdtrtxEl1 t s
  | .msrOsdtrtxEl1 t => Sys2Proof.Machine.execMsrOsdtrtxEl1 t s
  | .mrsDbgdtrEl0 t => Sys2Proof.Machine.execMrsDbgdtrEl0 t s
  | .msrDbgdtrEl0 t => Sys2Proof.Machine.execMsrDbgdtrEl0 t s
  | .mrsDbgdtrrxEl0 t => Sys2Proof.Machine.execMrsDbgdtrrxEl0 t s
  | .msrDbgdtrtxEl0 t => Sys2Proof.Machine.execMsrDbgdtrtxEl0 t s
  | .mrsMdscrEl1 t => Sys2Proof.Machine.execMrsMdscrEl1 t s
  | .msrMdscrEl1 t => Sys2Proof.Machine.execMsrMdscrEl1 t s
  | .mrsOseccrEl1 t => Sys2Proof.Machine.execMrsOseccrEl1 t s
  | .msrOseccrEl1 t => Sys2Proof.Machine.execMsrOseccrEl1 t s
  | .mrsDbgbvrEl1 n t => Sys2Proof.Machine.execMrsDbgbvrEl1 n t s
  | .msrDbgbvrEl1 n t => Sys2Proof.Machine.execMsrDbgbvrEl1 n t s
  | .mrsDbgbcrEl1 n t => Sys2Proof.Machine.execMrsDbgbcrEl1 n t s
  | .msrDbgbcrEl1 n t => Sys2Proof.Machine.execMsrDbgbcrEl1 n t s
  | .mrsDbgwvrEl1 n t => Sys2Proof.Machine.execMrsDbgwvrEl1 n t s
  | .msrDbgwvrEl1 n t => Sys2Proof.Machine.execMsrDbgwvrEl1 n t s
  | .mrsDbgwcrEl1 n t => Sys2Proof.Machine.execMrsDbgwcrEl1 n t s
  | .msrDbgwcrEl1 n t => Sys2Proof.Machine.execMsrDbgwcrEl1 n t s
  | .mrsDbgclaimsetEl1 t => Sys2Proof.Machine.execMrsDbgclaimsetEl1 t s
  | .msrDbgclaimsetEl1 t => Sys2Proof.Machine.execMsrDbgclaimsetEl1 t s
  | .mrsDbgclaimclrEl1 t => Sys2Proof.Machine.execMrsDbgclaimclrEl1 t s
  | .msrDbgclaimclrEl1 t => Sys2Proof.Machine.execMsrDbgclaimclrEl1 t s
  | .mrsDbgauthstatusEl1 t => Sys2Proof.Machine.execMrsDbgauthstatusEl1 t s
  | .mrsMdrarEl1 t => Sys2Proof.Machine.execMrsMdrarEl1 t s
  | .msrOslarEl1 t => Sys2Proof.Machine.execMsrOslarEl1 t s
  | .mrsOslsrEl1 t => Sys2Proof.Machine.execMrsOslsrEl1 t s
  | .mrsOsdlrEl1 t => Sys2Proof.Machine.execMrsOsdlrEl1 t s
  | .msrOsdlrEl1 t => Sys2Proof.Machine.execMsrOsdlrEl1 t s
  | .mrsDbgprcrEl1 t => Sys2Proof.Machine.execMrsDbgprcrEl1 t s
  | .msrDbgprcrEl1 t => Sys2Proof.Machine.execMsrDbgprcrEl1 t s
  | .mrsPmcrEl0 t => Sys2Proof.Machine.execMrsPmcrEl0 t s
  | .msrPmcrEl0 t => Sys2Proof.Machine.execMsrPmcrEl0 t s
  | .mrsPmcntensetEl0 t => Sys2Proof.Machine.execMrsPmcntensetEl0 t s
  | .msrPmcntensetEl0 t => Sys2Proof.Machine.execMsrPmcntensetEl0 t s
  | .mrsPmcntenclrEl0 t => Sys2Proof.Machine.execMrsPmcntenclrEl0 t s
  | .msrPmcntenclrEl0 t => Sys2Proof.Machine.execMsrPmcntenclrEl0 t s
  | .mrsPmovsclrEl0 t => Sys2Proof.Machine.execMrsPmovsclrEl0 t s
  | .msrPmovsclrEl0 t => Sys2Proof.Machine.execMsrPmovsclrEl0 t s
  | .msrPmswincEl0 t => Sys2Proof.Machine.execMsrPmswincEl0 t s
  | .mrsPmselrEl0 t => Sys2Proof.Machine.execMrsPmselrEl0 t s
  | .msrPmselrEl0 t => Sys2Proof.Machine.execMsrPmselrEl0 t s
  | .mrsPmceid0El0 t => Sys2Proof.Machine.execMrsPmceid0El0 t s
  | .mrsPmceid1El0 t => Sys2Proof.Machine.execMrsPmceid1El0 t s
  | .mrsPmccntrEl0 t => Sys2Proof.Machine.execMrsPmccntrEl0 t s
  | .msrPmccntrEl0 t => Sys2Proof.Machine.execMsrPmccntrEl0 t s
  | .mrsPmxevtyperEl0 t => Sys2Proof.Machine.execMrsPmxevtyperEl0 t s
  | .msrPmxevtyperEl0 t => Sys2Proof.Machine.execMsrPmxevtyperEl0 t s
  | .mrsPmxevcntrEl0 t => Sys2Proof.Machine.execMrsPmxevcntrEl0 t s
  | .msrPmxevcntrEl0 t => Sys2Proof.Machine.execMsrPmxevcntrEl0 t s
  | .mrsPmuserenrEl0 t => Sys2Proof.Machine.execMrsPmuserenrEl0 t s
  | .msrPmuserenrEl0 t => Sys2Proof.Machine.execMsrPmuserenrEl0 t s
  | .mrsPmovssetEl0 t => Sys2Proof.Machine.execMrsPmovssetEl0 t s
  | .msrPmovssetEl0 t => Sys2Proof.Machine.execMsrPmovssetEl0 t s
  | .mrsPmintensetEl1 t => Sys2Proof.Machine.execMrsPmintensetEl1 t s
  | .msrPmintensetEl1 t => Sys2Proof.Machine.execMsrPmintensetEl1 t s
  | .mrsPmintenclrEl1 t => Sys2Proof.Machine.execMrsPmintenclrEl1 t s
  | .msrPmintenclrEl1 t => Sys2Proof.Machine.execMsrPmintenclrEl1 t s
  | .mrsPmmirEl1 t => Sys2Proof.Machine.execMrsPmmirEl1 t s
  | .mrsPmccfiltrEl0 t => Sys2Proof.Machine.execMrsPmccfiltrEl0 t s
  | .msrPmccfiltrEl0 t => Sys2Proof.Machine.execMsrPmccfiltrEl0 t s
  | .mrsPmevcntrEl0 n t => Sys2Proof.Machine.execMrsPmevcntrEl0 n t s
  | .msrPmevcntrEl0 n t => Sys2Proof.Machine.execMsrPmevcntrEl0 n t s
  | .mrsPmevtyperEl0 n t => Sys2Proof.Machine.execMrsPmevtyperEl0 n t s
  | .msrPmevtyperEl0 n t => Sys2Proof.Machine.execMsrPmevtyperEl0 n t s
  | .mrsPmscrEl1 t => Sys2Proof.Machine.execMrsPmscrEl1 t s
  | .msrPmscrEl1 t => Sys2Proof.Machine.execMsrPmscrEl1 t s
  | .mrsPmsicrEl1 t => Sys2Proof.Machine.execMrsPmsicrEl1 t s
  | .msrPmsicrEl1 t => Sys2Proof.Machine.execMsrPmsicrEl1 t s
  | .mrsPmsirrEl1 t => Sys2Proof.Machine.execMrsPmsirrEl1 t s
  | .msrPmsirrEl1 t => Sys2Proof.Machine.execMsrPmsirrEl1 t s
  | .mrsPmsfcrEl1 t => Sys2Proof.Machine.execMrsPmsfcrEl1 t s
  | .msrPmsfcrEl1 t => Sys2Proof.Machine.execMsrPmsfcrEl1 t s
  | .mrsPmsevfrEl1 t => Sys2Proof.Machine.execMrsPmsevfrEl1 t s
  | .msrPmsevfrEl1 t => Sys2Proof.Machine.execMsrPmsevfrEl1 t s
  | .mrsPmslatfrEl1 t => Sys2Proof.Machine.execMrsPmslatfrEl1 t s
  | .msrPmslatfrEl1 t => Sys2Proof.Machine.execMsrPmslatfrEl1 t s
  | .mrsPmsidrEl1 t => Sys2Proof.Machine.execMrsPmsidrEl1 t s
  | .mrsPmblimitrEl1 t => Sys2Proof.Machine.execMrsPmblimitrEl1 t s
  | .msrPmblimitrEl1 t => Sys2Proof.Machine.execMsrPmblimitrEl1 t s
  | .mrsPmbptrEl1 t => Sys2Proof.Machine.execMrsPmbptrEl1 t s
  | .msrPmbptrEl1 t => Sys2Proof.Machine.execMsrPmbptrEl1 t s
  | .mrsPmbsrEl1 t => Sys2Proof.Machine.execMrsPmbsrEl1 t s
  | .msrPmbsrEl1 t => Sys2Proof.Machine.execMsrPmbsrEl1 t s
  | .mrsPmbidrEl1 t => Sys2Proof.Machine.execMrsPmbidrEl1 t s
  | .mrsTrfcrEl1 t => Sys2Proof.Machine.execMrsTrfcrEl1 t s
  | .msrTrfcrEl1 t => Sys2Proof.Machine.execMsrTrfcrEl1 t s
  | .mrcHdcr cond t => Sys2Proof.Machine.execMrcHdcr cond t s
  | .mcrHdcr cond t => Sys2Proof.Machine.execMcrHdcr cond t s
  | .mrcDbgdidr cond t => Sys2Proof.Machine.execMrcDbgdidr cond t s
  | .mrcDbgdscrint cond t => Sys2Proof.Machine.execMrcDbgdscrint cond t s
  | .mrcDbgdtrrxint cond t => Sys2Proof.Machine.execMrcDbgdtrrxint cond t s
  | .mcrDbgdtrtxint cond t => Sys2Proof.Machine.execMcrDbgdtrtxint cond t s
  | .mrcDbgdccint cond t => Sys2Proof.Machine.execMrcDbgdccint cond t s
  | .mcrDbgdccint cond t => Sys2Proof.Machine.execMcrDbgdccint cond t s
  | .mrcDbgdtrrxext cond t => Sys2Proof.Machine.execMrcDbgdtrrxext cond t s
  | .mcrDbgdtrrxext cond t => Sys2Proof.Machine.execMcrDbgdtrrxext cond t s
  | .mrcDbgdtrtxext cond t => Sys2Proof.Machine.execMrcDbgdtrtxext cond t s
  | .mcrDbgdtrtxext cond t => Sys2Proof.Machine.execMcrDbgdtrtxext cond t s
  | .mrcDbgdscrext cond t => Sys2Proof.Machine.execMrcDbgdscrext cond t s
  | .mcrDbgdscrext cond t => Sys2Proof.Machine.execMcrDbgdscrext cond t s
  | .mrcDbgwfar cond t => Sys2Proof.Machine.execMrcDbgwfar cond t s
  | .mcrDbgwfar cond t => Sys2Proof.Machine.execMcrDbgwfar cond t s
  | .mrcDbgvcr cond t => Sys2Proof.Machine.execMrcDbgvcr cond t s
  | .mcrDbgvcr cond t => Sys2Proof.Machine.execMcrDbgvcr cond t s
  | .mrcDbgoseccr cond t => Sys2Proof.Machine.execMrcDbgoseccr cond t s
  | .mcrDbgoseccr cond t => Sys2Proof.Machine.execMcrDbgoseccr cond t s
  | .mrcDbgbvr cond n t => Sys2Proof.Machine.execMrcDbgbvr cond n t s
  | .mcrDbgbvr cond n t => Sys2Proof.Machine.execMcrDbgbvr cond n t s
  | .mrcDbgbcr cond n t => Sys2Proof.Machine.execMrcDbgbcr cond n t s
  | .mcrDbgbcr cond n t => Sys2Proof.Machine.execMcrDbgbcr cond n t s
  | .mrcDbgwvr cond n t => Sys2Proof.Machine.execMrcDbgwvr cond n t s
  | .mcrDbgwvr cond n t => Sys2Proof.Machine.execMcrDbgwvr cond n t s
  | .mrcDbgwcr cond n t => Sys2Proof.Machine.execMrcDbgwcr cond n t s
  | .mcrDbgwcr cond n t => Sys2Proof.Machine.execMcrDbgwcr cond n t s
  | .mrcDbgbxvr cond n t => Sys2Proof.Machine.execMrcDbgbxvr cond n t s
  | .mcrDbgbxvr cond n t => Sys2Proof.Machine.execMcrDbgbxvr cond n t s
  | .mrcDbgclaimset cond t => Sys2Proof.Machine.execMrcDbgclaimset cond t s
  | .mcrDbgclaimset cond t => Sys2Proof.Machine.execMcrDbgclaimset cond t s
  | .mrcDbgclaimclr cond t => Sys2Proof.Machine.execMrcDbgclaimclr cond t s
  | .mcrDbgclaimclr cond t => Sys2Proof.Machine.execMcrDbgclaimclr cond t s
  | .mrcDbgauthstatus cond t => Sys2Proof.Machine.execMrcDbgauthstatus cond t s
  | .mrcDbgdevid cond t => Sys2Proof.Machine.execMrcDbgdevid cond t s
  | .mrcDbgdevid1 cond t => Sys2Proof.Machine.execMrcDbgdevid1 cond t s
  | .mrcDbgdevid2 cond t => Sys2Proof.Machine.execMrcDbgdevid2 cond t s
  | .mrcDbgdrar cond t => Sys2Proof.Machine.execMrcDbgdrar cond t s
  | .mrcDbgdsar cond t => Sys2Proof.Machine.execMrcDbgdsar cond t s
  | .mcrDbgoslar cond t => Sys2Proof.Machine.execMcrDbgoslar cond t s
  | .mrcDbgoslsr cond t => Sys2Proof.Machine.execMrcDbgoslsr cond t s
  | .mrcDbgosdlr cond t => Sys2Proof.Machine.execMrcDbgosdlr cond t s
  | .mcrDbgosdlr cond t => Sys2Proof.Machine.execMcrDbgosdlr cond t s
  | .mrcDbgprcr cond t => Sys2Proof.Machine.execMrcDbgprcr cond t s
  | .mcrDbgprcr cond t => Sys2Proof.Machine.execMcrDbgprcr cond t s
  | .mrcTrfcr cond t => Sys2Proof.Machine.execMrcTrfcr cond t s
  | .mcrTrfcr cond t => Sys2Proof.Machine.execMcrTrfcr cond t s
  | .mrcPmcr cond t => Sys2Proof.Machine.execMrcPmcr cond t s
  | .mcrPmcr cond t => Sys2Proof.Machine.execMcrPmcr cond t s
  | .mrcPmcntenset cond t => Sys2Proof.Machine.execMrcPmcntenset cond t s
  | .mcrPmcntenset cond t => Sys2Proof.Machine.execMcrPmcntenset cond t s
  | .mrcPmcntenclr cond t => Sys2Proof.Machine.execMrcPmcntenclr cond t s
  | .mcrPmcntenclr cond t => Sys2Proof.Machine.execMcrPmcntenclr cond t s
  | .mrcPmovsr cond t => Sys2Proof.Machine.execMrcPmovsr cond t s
  | .mcrPmovsr cond t => Sys2Proof.Machine.execMcrPmovsr cond t s
  | .mcrPmswinc cond t => Sys2Proof.Machine.execMcrPmswinc cond t s
  | .mrcPmselr cond t => Sys2Proof.Machine.execMrcPmselr cond t s
  | .mcrPmselr cond t => Sys2Proof.Machine.execMcrPmselr cond t s
  | .mrcPmceid0 cond t => Sys2Proof.Machine.execMrcPmceid0 cond t s
  | .mrcPmceid1 cond t => Sys2Proof.Machine.execMrcPmceid1 cond t s
  | .mrcPmceid2 cond t => Sys2Proof.Machine.execMrcPmceid2 cond t s
  | .mrcPmceid3 cond t => Sys2Proof.Machine.execMrcPmceid3 cond t s
  | .mrcPmccntr cond t => Sys2Proof.Machine.execMrcPmccntr cond t s
  | .mcrPmccntr cond t => Sys2Proof.Machine.execMcrPmccntr cond t s
  | .mrcPmxevtyper cond t => Sys2Proof.Machine.execMrcPmxevtyper cond t s
  | .mcrPmxevtyper cond t => Sys2Proof.Machine.execMcrPmxevtyper cond t s
  | .mrcPmxevcntr cond t => Sys2Proof.Machine.execMrcPmxevcntr cond t s
  | .mcrPmxevcntr cond t => Sys2Proof.Machine.execMcrPmxevcntr cond t s
  | .mrcPmuserenr cond t => Sys2Proof.Machine.execMrcPmuserenr cond t s
  | .mcrPmuserenr cond t => Sys2Proof.Machine.execMcrPmuserenr cond t s
  | .mrcPmintenset cond t => Sys2Proof.Machine.execMrcPmintenset cond t s
  | .mcrPmintenset cond t => Sys2Proof.Machine.execMcrPmintenset cond t s
  | .mrcPmintenclr cond t => Sys2Proof.Machine.execMrcPmintenclr cond t s
  | .mcrPmintenclr cond t => Sys2Proof.Machine.execMcrPmintenclr cond t s
  | .mrcPmovsset cond t => Sys2Proof.Machine.execMrcPmovsset cond t s
  | .mcrPmovsset cond t => Sys2Proof.Machine.execMcrPmovsset cond t s
  | .mrcPmmir cond t => Sys2Proof.Machine.execMrcPmmir cond t s
  | .mrcPmccfiltr cond t => Sys2Proof.Machine.execMrcPmccfiltr cond t s
  | .mcrPmccfiltr cond t => Sys2Proof.Machine.execMcrPmccfiltr cond t s
  | .mrcPmevcntr cond n t => Sys2Proof.Machine.execMrcPmevcntr cond n t s
  | .mcrPmevcntr cond n t => Sys2Proof.Machine.execMcrPmevcntr cond n t s
  | .mrcPmevtyper cond n t => Sys2Proof.Machine.execMrcPmevtyper cond n t s
  | .mcrPmevtyper cond n t => Sys2Proof.Machine.execMcrPmevtyper cond n t s
  | .mrrcDbgdrar cond t t2 => Sys2Proof.Machine.execMrrcDbgdrar cond t t2 s
  | .mrrcDbgdsar cond t t2 => Sys2Proof.Machine.execMrrcDbgdsar cond t t2 s
  | .mrrcPmccntr cond t t2 => Sys2Proof.Machine.execMrrcPmccntr cond t t2 s
  | .mcrrPmccntr cond t t2 => Sys2Proof.Machine.execMcrrPmccntr cond t t2 s
  | .ldcDbgdtrtxint cond p u w rn imm8 => Sys2Proof.Machine.execLdcDbgdtrtxint cond p u w rn imm8 s
  | .stcDbgdtrrxint cond p u w rn imm8 => Sys2Proof.Machine.execStcDbgdtrrxint cond p u w rn imm8 s

end Sys2Proof.Machine
end

