-- ==== Sys2Proof/Machine/Events.lean ====
section
/-! DEFINITION. What the environment does between two instructions: debug exceptions (41_debug_traps.md R105,
60_exceptions.md R235), exception return (R242), resets (70_reset_and_hazards.md), counting (42_pmu_controls.md section
5), and the inputs that change over time (notes/assumptions 26). -/

namespace Sys2Proof.Machine

/-! ### Debug exceptions -/

/-- DebugExceptionTargetEL (41_debug_traps.md R105). A debug exception generated at EL2 or EL3 is taken at that level
(notes/assumptions 27). -/
def State.debugTarget (s : State) : EL :=
  match s.ps.el with
  | .el0 => if s.el2Enabled && s.effTde then .el2 else .el1
  | .el1 => if s.el2Enabled && s.effTde then .el2 else .el1
  | .el2 => .el2
  | .el3 => .el3

/-- The exception class (60_exceptions.md R223, R235): `same`, taken without a change in Exception level; `nested`, a
watchpoint of a VNCR_EL2 access that is taken to EL2 (notes/assumptions 27). -/
def debugEc (e : DebugException) (same nested : Bool) : BitVec 6 :=
  match e with
  | .breakpoint => if same then 0x31 else 0x30
  | .softwareStep _ _ => if same then 0x33 else 0x32
  | .watchpoint _ _ _ => if same || nested then 0x35 else 0x34
  | .bkpt _ _ => 0x38
  | .vectorCatch => 0x3A
  | .brk _ => 0x3C

/-- The ISS (60_exceptions.md R235). -/
def debugIss (e : DebugException) : BitVec 25 :=
  match e with
  | .breakpoint => 0x22
  | .softwareStep isv ex => BitVec.ofBool isv ++ 0#17 ++ BitVec.ofBool (isv && ex) ++ 0x22#6
  | .watchpoint vncr cm wnr =>
    0#11 ++ BitVec.ofBool vncr ++ 0#4 ++ BitVec.ofBool cm ++ 0#1 ++ BitVec.ofBool wnr ++ 0x22#6
  | .bkpt comment _ => comment.setWidth 25
  | .vectorCatch => 0x22
  | .brk imm => imm.setWidth 25

/-- IL: 0 only for the 16-bit BKPT (60_exceptions.md R224, R235). -/
def debugIl (e : DebugException) : Bool :=
  match e with
  | .bkpt _ wide => wide
  | _ => true

/-- The access was one of nested virtualization, which only ARMv8.4-NV has (60_exceptions.md R235). -/
def DebugException.nested (e : DebugException) : Bool :=
  match e with
  | .watchpoint vncr _ _ => vncr
  | _ => false

/-- The class as the implementation can generate it: the VNCR bit only with ARMv8.4-NV (60_exceptions.md R235). -/
def DebugException.forConfig (e : DebugException) (c : Config) : DebugException :=
  match e with
  | .watchpoint vncr cm wnr => .watchpoint (vncr && c.haveNV2) cm wnr
  | other => other

/-- A debug exception is generated at the current level. -/
def State.takeDebug (s : State) (e : DebugException) : State :=
  let T := s.debugTarget
  let e' := e.forConfig s.cfg
  s.take T (esrValue (debugEc e' (decide (T = s.ps.el)) (e'.nested && decide (T = .el2))) (debugIl e') (debugIss e'))

/-! ### Reset (70_reset_and_hazards.md; notes/assumptions 40) -/

/-- The fields of MDCR_EL2 that a reset into AArch64 leaves UNKNOWN (70 R262, R266). -/
def unknownFields64 : Word := 0x0C087FE0

/-- The fields that a reset into AArch32 leaves UNKNOWN (70 R267). -/
def unknownFields32 : Word := 0x08007080

/-- MDCR_EL2 after a reset (70 R260 to R263, R266, R267): MTPME is set by a Cold reset and kept by a Warm one, HPMN is
PMCR_N, the UNKNOWN fields are drawn once, every other field is 0. -/
def State.mdcrAfterReset (s : State) (cold : Bool) : Word :=
  if !s.cfg.haveEL2 then 0
  else
    let unknown := if s.cfg.resetIntoAArch64 then unknownFields64 else unknownFields32
    let mtpme : Word := if cold then 0x10000000 else s.ctl.mdcrEl2 &&& 0x10000000
    ((s.free (.reset 0) &&& unknown) ||| mtpme ||| s.cfg.pmcrN.setWidth 64) &&& implMask s.cfg

/-- A bank of registers of UNKNOWN value: register `i` draws at `base + i`. -/
def State.freeBank (s : State) (n base : Nat) : Vector Word n := Vector.ofFn fun i => s.free (.reset (base + i.val))

/-- PSTATE after a reset: the level and the Execution state are known (70 R260, R268), the rest is drawn. -/
def State.psAfterReset (s : State) : PState :=
  let v := s.free (.reset 1)
  let a32 := !s.cfg.resetIntoAArch64
  { n := v.getLsbD 0
    z := v.getLsbD 1
    c := v.getLsbD 2
    v := v.getLsbD 3
    tco := v.getLsbD 4
    dit := v.getLsbD 5
    uao := v.getLsbD 6
    pan := v.getLsbD 7
    ss := v.getLsbD 8
    il := v.getLsbD 9
    ssbs := v.getLsbD 10
    btype := v.extractLsb' 11 2
    d := v.getLsbD 13
    a := v.getLsbD 14
    i := v.getLsbD 15
    f := v.getLsbD 16
    nRW := a32
    el := resetEL s.cfg
    sp := v.getLsbD 17
    thumb := a32 && v.getLsbD 18
    it := if a32 then v.extractLsb' 19 8 else 0 }

/-- A bank of exception registers of UNKNOWN value: free in their RW fields, zero in the RES0 bits [63:32] of ESR and
SPSR and [10:0] of VBAR (10_state.md R43; 60_exceptions.md R222). -/
def State.freeExc (s : State) (base : Nat) : ExcBank where
  esr := s.freeLow (.reset base)
  elr := s.free (.reset (base + 1))
  spsr := s.freeLow (.reset (base + 2))
  vbar := vectorBase (s.free (.reset (base + 3)))

/-- The control registers after a reset (70 R268): UNKNOWN, but HDFGRTR_EL2 and HDFGWTR_EL2, which are 0 where the PE
resets into EL2. -/
def State.ctlAfterReset (s : State) (cold : Bool) : Controls :=
  let fgt (k : Nat) : Word := if resetEL s.cfg = .el2 then 0 else s.free (.reset k)
  { mdcrEl2 := s.mdcrAfterReset cold
    hcrEl2 := s.free (.reset 2)
    scrEl3 := s.free (.reset 3)
    mdcrEl3 := s.free (.reset 4)
    hdfgrtrEl2 := fgt 5
    hdfgwtrEl2 := fgt 6
    hstrEl2 := s.free (.reset 7)
    vncrEl2 := s.free (.reset 8)
    sctlrEl1 := s.free (.reset 9)
    sctlrEl2 := s.free (.reset 10)
    sdcr := low32 (s.free (.reset 11)) }

/-- The debug registers after a reset: OSLSR_EL1.OSLK is 1 after a Cold reset and unchanged by a Warm one (70 R268);
identification registers keep their value; what the spec does not state is drawn, but for the bits of OSLSR_EL1 other
than OSLK, which a Cold reset keeps too, the model's choice (notes/assumptions 40). -/
def State.dbgAfterReset (s : State) (cold : Bool) : DebugRegs :=
  { s.dbg with
    mdccsrEl0 := s.free (.reset 20)
    mdccintEl1 := s.free (.reset 21)
    osdtrrxEl1 := s.free (.reset 22)
    osdtrtxEl1 := s.free (.reset 23)
    dtrRx := low32 (s.free (.reset 24))
    dtrTx := low32 (s.free (.reset 25))
    rxFull := (s.free (.reset 26)).getLsbD 0
    mdscrEl1 := s.free (.reset 27)
    oseccrEl1 := s.free (.reset 28)
    bvr := s.freeBank 16 200
    bcr := s.freeBank 16 220
    wvr := s.freeBank 16 240
    wcr := s.freeBank 16 260
    claimSet := s.free (.reset 29)
    claimClr := s.free (.reset 30)
    oslsr := if cold then s.dbg.oslsr ||| 2 else s.dbg.oslsr
    osdlr := s.free (.reset 31)
    dbgprcr := s.free (.reset 32)
    edscr := low32 (s.free (.reset 33))
    dbgwfar := low32 (s.free (.reset 34))
    dbgvcr := low32 (s.free (.reset 35)) }

/-- The Performance Monitors registers after a reset (70 R268): PMCR_EL0.E is 0, N is PMCR_N; what the spec does not
state is drawn. -/
def State.pmuAfterReset (s : State) : PmuRegs :=
  { s.pmu with
    pmcr := pmcrMerge s.cfg (s.free (.reset 40) &&& ~~~1#64)
    pmcnten := s.free (.reset 41)
    pmovs := s.free (.reset 42)
    pminten := s.free (.reset 43)
    pmselr := s.free (.reset 44)
    pmccntr := s.free (.reset 45)
    pmccfiltr := s.free (.reset 46)
    pmuserenr := s.free (.reset 47)
    evcntr := (s.freeBank 31 280).map (counterValue s.cfg)
    evtyper := s.freeBank 31 320 }

/-- The Statistical Profiling and trace filter registers after a reset (70 R268): drawn. -/
def State.speAfterReset (s : State) : SpeRegs :=
  { s.spe with
    pmscrEl1 := s.free (.reset 50)
    pmscrEl2 := s.free (.reset 51)
    pmsicr := s.free (.reset 52)
    pmsirr := s.free (.reset 53)
    pmsfcr := s.free (.reset 54)
    pmsevfr := s.free (.reset 55)
    pmslatfr := s.free (.reset 56)
    pmblimitr := s.free (.reset 57)
    pmbptr := s.free (.reset 58)
    pmbsr := s.free (.reset 59)
    trfcrEl1 := s.free (.reset 60)
    trfcrEl2 := s.free (.reset 61) }

/-- The inputs after a reset: Non-debug state (70 R268), and the levels that use AArch32: all where the PE resets into
AArch32; else the level reset into does not, and the others are as they were. That HaltingAllowed(),
ExternalSecureNoninvasiveDebugEnabled() and the MTPMU state of another PE are as they were is the model's choice
(notes/assumptions 40). -/
def State.inpAfterReset (s : State) : Inputs :=
  let a32 := !s.cfg.resetIntoAArch64
  { s.inp with
    halted := false
    el1A32 := a32 || (s.inp.el1A32 && decide (resetEL s.cfg ≠ .el1))
    el2A32 := a32 || (s.inp.el2A32 && decide (resetEL s.cfg ≠ .el2))
    el3A32 := a32 || (s.inp.el3A32 && decide (resetEL s.cfg ≠ .el3)) }

/-- A reset: `ColdReset` does all that `WarmReset` does and sets the Cold-reset fields (70 R260). Memory is as it was. -/
def State.afterReset (s : State) (cold : Bool) : State :=
  { s with
    x := s.freeBank 31 400
    pc := s.cfg.resetPc
    ps := s.psAfterReset
    inp := s.inpAfterReset
    ctl := s.ctlAfterReset cold
    exc := {
      el1 := s.freeExc 70
      el2 := s.freeExc 74
      el3 := s.freeExc 78
      farEl2 := s.free (.reset 82)
      hpfarEl2 := s.free (.reset 83) }
    dbg := s.dbgAfterReset cold
    pmu := s.pmuAfterReset
    spe := s.speAfterReset }

/-! ### One event -/

/-- What an event does. -/
def handleEvent (e : Event) (s : State) : Host.Outcome State Fault Refusal :=
  match e with
  | .debugException d => .next (s.takeDebug d)
  | .exceptionReturn => exceptionReturn s
  | .warmReset => .next (s.afterReset false)
  | .coldReset => .next (s.afterReset true)
  | .counterEvent n source => .next (s.countEvent n source)
  | .cycle => .next s.countCycle
  | .setHalted b => .next { s with inp := { s.inp with halted := b } }
  | .setExternalDebug b => .next { s with inp := { s.inp with extDebugEnabled := b } }
  | .setSiblingMtpmu off => .next { s with inp := { s.inp with siblingMtpmuOff := off } }

end Sys2Proof.Machine
end

