-- ==== Sys2Proof/Machine/Fetch.lean ====
section
/-! DEFINITION. Fetching the bytes of an instruction (20_memory.md R54, R55), and the words that are no instruction of
the table: the helper words of 95_test_vectors.md Part 3, the IMPLEMENTATION DEFINED registers of TDOSA
(41_debug_traps.md R103), encodings that are not allocated (30_encoding.md R68), and every other word (R71). -/

namespace Sys2Proof.Machine

/-- The instruction set in force (30_encoding.md R67). -/
def State.instrSet (s : State) : InstrSet := if !s.ps.nRW then .a64 else if s.ps.thumb then .t32 else .a32

/-- The pc is aligned for its instruction set (20_memory.md R55; notes/assumptions 6). -/
def State.pcAligned (s : State) : Bool :=
  match s.instrSet with
  | .t32 => !s.pc.getLsbD 0
  | _ => s.pc.extractLsb' 0 2 == 0

/-- The four bytes at the pc. -/
def State.fetchBytes (s : State) : List Byte := s.bytesAt s.pc 4

/-- The instruction that the bytes at the pc decode to. -/
def State.fetch (s : State) : Decoded := decode s.instrSet s.fetchBytes

/-- `MOVZ Xd, #imm16`, 0xD2800000 | (imm16 << 5) | d (95_test_vectors.md Part 3). -/
def isMovz (w : Word32) : Bool := w.extractLsb' 21 11 == 0b11010010100

/-- A register of TDOSA_extra_registers (41_debug_traps.md R103; notes/assumptions 34): trapped like the powerdown
debug registers at EL1, Undefined at EL0 ("These registers are not accessible at EL0"), and otherwise a register whose
contents the spec does not give. -/
def runExtra (e : SysEnc) (t : XReg) (read : Bool) (w : Word32) (s : State) : Host.Outcome State Fault Refusal :=
  match s.ps.el with
  | .el0 => .next s.takeUndefined
  | .el1 =>
    if s.a64EL2 && s.effTdosa then .next (s.takeTrap .el2 0x18 (iss18 e t read))
    else .refused (.implementationDefinedRegister w)
  | _ => .refused (.implementationDefinedRegister w)

/-- The checks of an AArch32 register of TDOSA_extra_registers (41_debug_traps.md R103; notes/assumptions 34). -/
def extra32Chain (s : State) : Decision32 :=
  match s.ps.el with
  | .el0 => .undefined
  | .el1 =>
    if s.a64EL2 && s.effTdosa then .trap .el2
    else if s.a32EL2 && s.effTdosa then .hypTrap
    else .access 0
  | _ => .access 0

/-- An access to such a register: refused where it would be performed; else what the checks decide, under the condition
as every AArch32 access (60_exceptions.md R231; the parameter `trapFailedCondition` applies to its trap:
notes/assumptions 34, 41). -/
def runExtra32 (e : CpEnc) (c : Cond) (t : RReg) (read : Bool) (w : Word32) (s : State) :
    Host.Outcome State Fault Refusal :=
  if s.condPassed c && decide (extra32Chain s = .access 0) then .refused (.implementationDefinedRegister w)
  else run32 c 0x05 (s.issMcr e c t read) (extra32Chain s) (fun _ => s) s s

/-- A word whose encoding is not allocated is Undefined (30_encoding.md R68). An AArch32 one whose condition check fails
is a NOP, the model's choice: the spec does not speak of the case (60_exceptions.md R231; notes/assumptions 33, 41). -/
def runUnallocated (w : Word32) (s : State) : State :=
  if s.ps.nRW && !s.condPassed (w.extractLsb' 28 4) then s.advance else s.takeUndefined

/-- A word that is no instruction of the table: a helper word, an access to a register of TDOSA_extra_registers
(41_debug_traps.md R103) in the words of the instruction set in force (30_encoding.md R62, R65), or outside the spec. -/
def runOther (w : Word32) (s : State) : Host.Outcome State Fault Refusal :=
  if !s.ps.nRW then
    if isMovz w then .next ((s.setX (w.extractLsb' 0 5) ((w.extractLsb' 5 16).setWidth 64)).advance)
    else if w = 0xD5033FDF then .next s.advance
    else if w = 0xD69F03E0 then exceptionReturn s
    else match Form.parse .a64 w with
      | some (.a64 read e t) =>
        if s.cfg.tdosaExtra.contains e then runExtra e t read w s else .refused (.encodingOutsideSpec w)
      | _ => .refused (.encodingOutsideSpec w)
  else match Form.parse s.instrSet w with
    | some (.cp read c e t) =>
      if s.cfg.tdosaExtra32.contains e then runExtra32 e c t read w s else .refused (.encodingOutsideSpec w)
    | _ => .refused (.encodingOutsideSpec w)

end Sys2Proof.Machine
end

