-- ==== Sys2Proof/Machine/Step.lean ====
section
/-! DEFINITION. One step: the oldest waiting input if there is one, else the instruction at the pc. -/

namespace Sys2Proof.Machine

/-- A step is over: the next one draws fresh values (notes/assumptions 2). -/
def State.tick (s : State) : State := { s with draws := s.draws + 1 }

/-- The outcome with the step counted. -/
def tickOutcome : Host.Outcome State Fault Refusal → Host.Outcome State Fault Refusal
  | .next s => .next s.tick
  | .fault f => .fault f
  | .refused r => .refused r

/-- The instruction at the pc. -/
def stepInstr (s : State) : Host.Outcome State Fault Refusal :=
  if !s.pcAligned then .fault (.misalignedFetch s.pc)
  else match s.fetch with
    | .instr i => exec i s
    | .unallocated w => .next (runUnallocated w s)
    | .outsideSpec w => runOther w s
    | .tooShort => .refused (.encodingOutsideSpec 0)

/-- ONE STEP. -/
def step (s : State) : Host.Outcome State Fault Refusal :=
  match s.events with
  | e :: rest => tickOutcome (handleEvent e { s with events := rest })
  | [] => tickOutcome (stepInstr s)

/-- `s` with the table word `w` as the instruction that the next step runs: its bytes at the pc (rounded down to a
multiple of 4), the Execution state of its row, A32 for the AArch32 rows, and no input waiting (notes/assumptions 37). -/
def State.withFetchWord (s : State) (nbits w : Nat) : State :=
  let word := tableWord nbits w
  let a32 := decide (tableSet word = .a32)
  let pc := s.pc &&& 0xFFFFFFFFFFFFFFFC
  { s.setBytes pc (bytesOfWord (tableSet word) word) with
    pc := pc
    ps := { s.ps with nRW := a32, thumb := false, it := 0 }
    inp := s.inp.setA32 s.ps.el a32
    events := [] }

end Sys2Proof.Machine
end

