-- ==== Sys2Proof/Safety.lean ====
section
/-! DEFINITION. The terms that statements use: what a state of a run is like, when an access is performed (each condition
written out level by level from the rule of its register, apart from the chains of Machine/Chains.lean), and what an
instruction may change. -/

namespace Sys2Proof.Machine

/-! ### What a state of a run is like -/

/-- The invariant of the machine. -/
structure State.Inv (s : State) : Prop where
  /-- Memory has its canonical form (notes/assumptions 5). -/
  mem : Memory.wf s.mem = true
  /-- A RES0 bit of MDCR_EL2 is 0 unless the implementation stores it (10_state.md R13, 40_access.md R82). -/
  res0 : s.cfg.res0BitsStored = false → s.ctl.mdcrEl2 &&& ~~~implMask s.cfg = 0
  /-- PMCR_EL0.N is PMCR_N, and P and C read as zero (10_state.md R41). -/
  pmcr : s.pmu.pmcr.extractLsb' 11 5 = s.cfg.pmcrN ∧ s.pmu.pmcr.extractLsb' 1 2 = 0
  /-- Without ARMv8.5-PMU an event counter has 32 bits (10_state.md R45). -/
  counters : s.cfg.havePMUv3p5 = false → ∀ n, n < 31 → vget s.pmu.evcntr n &&& 0xFFFFFFFF00000000 = 0
  /-- The current level is implemented, and EL2 only runs while it is enabled (60_exceptions.md R220). -/
  level : s.haveEL s.ps.el = true ∧ (s.ps.el = .el2 → s.el2Enabled = true)
  /-- The Execution state is the one that the current level uses (10_state.md R36; 00_scope.md section 5). -/
  execState : s.ps.el ≠ .el0 → s.ps.nRW = s.elA32 s.ps.el
  /-- T and IT are AArch32 state only. -/
  thumb : s.ps.nRW = false → s.ps.thumb = false ∧ s.ps.it = 0

/-- The stored HPMN is legal (10_state.md R29). -/
def State.hpmnLegal (s : State) : Bool := decide (1 ≤ s.hpmn) && decide (s.hpmn ≤ s.pmcrN)

/-- The stored HPMN is legal, or nothing depends on it: no EL2, or no event counters (42_pmu_controls.md R172). -/
def State.hpmnPlain (s : State) : Bool := !s.cfg.haveEL2 || decide (s.pmcrN = 0) || s.hpmnLegal

/-! ### When a direct access to MDCR_EL2 or HDCR is performed (40_access.md R80 to R88) -/

def State.mdcrOpen (s : State) : Bool :=
  match s.ps.el with
  | .el0 => false
  | .el1 => false
  | .el2 => !(s.a64EL3 && s.tda3)
  | .el3 => true

def State.hdcrOpen (s : State) : Bool :=
  match s.ps.el with
  | .el0 => false
  | .el1 => false
  | .el2 => !(s.a64EL3 && s.tda3)
  | .el3 => s.nonSecure

/-! ### When an access to a debug register is performed, A64 (41_debug_traps.md section 3) -/

/-- The registers of R110: MDCCSR_EL0. -/
def State.dccUserOpen (s : State) : Bool :=
  let quiet3 := !(s.a64EL3 && (s.tdcc3 || s.tda3))
  match s.ps.el with
  | .el0 =>
    quiet3 && !(!s.inp.el1A32 && s.udccDis) && !(s.a64EL2 && (s.tge || s.tdcc || s.tde || s.tda))
  | .el1 => quiet3 && !(s.a64EL2 && (s.tdcc || s.tde || s.tda))
  | .el2 => quiet3
  | .el3 => true

/-- The registers of R111 to R113. -/
def State.dccOpen (s : State) : Bool := decide (s.ps.el ≠ .el0) && s.dccUserOpen

/-- The transfer registers of R114 to R116: always in Debug state (R107). -/
def State.dtrOpen (s : State) : Bool := s.inp.halted || s.dccUserOpen

/-- The registers of R117, R118 and R123 to R125, with the fine-grained bit `bit`. -/
def State.tdaOpen (s : State) (read : Bool) (bit : Nat) : Bool :=
  let quiet3 := !(s.a64EL3 && s.tda3)
  match s.ps.el with
  | .el0 => false
  | .el1 => quiet3 && !s.fgt1 read bit && !(s.a64EL2 && (s.tde || s.tda))
  | .el2 => quiet3
  | .el3 => true

/-- Breakpoint or watchpoint register `n` of `count` (R119 to R122). -/
def State.breakOpen (s : State) (read : Bool) (bit : Nat) (n : BitVec 4) (count : Nat) : Bool :=
  decide (n.toNat < count) && s.tdaOpen read bit
    && !(!s.inp.el1A32 && !s.dbg.oslsr.getLsbD 1 && s.inp.haltingAllowed && s.dbg.edscr.getLsbD 21)

/-- MDRAR_EL1 (R126). -/
def State.mdrarOpen (s : State) : Bool :=
  let quiet3 := !(s.a64EL3 && s.tda3)
  match s.ps.el with
  | .el0 => false
  | .el1 => quiet3 && !(s.a64EL2 && (s.tde || s.tdra))
  | .el2 => quiet3
  | .el3 => true

/-- The registers of R127, R128 and R130. -/
def State.tdosaOpen (s : State) (read : Bool) (bit : Nat) : Bool :=
  let quiet3 := !(s.a64EL3 && s.tdosa3)
  match s.ps.el with
  | .el0 => false
  | .el1 => quiet3 && !s.fgt1 read bit && !(s.a64EL2 && (s.tde || s.tdosa))
  | .el2 => quiet3
  | .el3 => true

/-- OSDLR_EL1 (R129). -/
def State.osdlrOpen (s : State) (read : Bool) : Bool :=
  let quiet3 := !(s.a64EL3 && s.tdosa3 && (s.cfg.haveDoubleLock || s.cfg.mdcrEl3TdosaTrapsOsdlr))
  match s.ps.el with
  | .el0 => false
  | .el1 =>
    quiet3 && !(s.fgt1 read 11 && s.cfg.haveDoubleLock)
      && !(s.a64EL2 && (s.tde || s.tdosa) && (s.cfg.haveDoubleLock || s.cfg.tdosaTrapsOsdlr))
  | .el2 => quiet3
  | .el3 => true

/-! ### When an access to a debug register is performed, AArch32 (41_debug_traps.md section 4) -/

/-- The registers of R132. -/
def State.tda32Open (s : State) : Bool :=
  let quiet3 := !(s.a64EL3 && s.tda3)
  match s.ps.el with
  | .el0 => false
  | .el1 => quiet3 && !(s.el2Enabled && (s.tde || s.tda))
  | .el2 => quiet3
  | .el3 => true

/-- The registers of R137; `dcc` is false for DBGDIDR, which has no TDCC branch. -/
def State.dcc32UserOpen (s : State) (dcc : Bool) : Bool :=
  let quiet3 := !(s.a64EL3 && ((dcc && s.tdcc3) || s.tda3)) && !(dcc && s.a32EL3 && s.sdcrTdcc)
  match s.ps.el with
  | .el0 => quiet3 && !s.udccDis && !(s.el2Enabled && (s.tge || (dcc && s.tdcc) || s.tde || s.tda))
  | .el1 => quiet3 && !(s.el2Enabled && ((dcc && s.tdcc) || s.tde || s.tda))
  | .el2 => quiet3
  | .el3 => true

/-- The registers of R133. -/
def State.dcc32Open (s : State) : Bool := decide (s.ps.el ≠ .el0) && s.dcc32UserOpen true

/-- DBGDTRRXint and DBGDTRTXint (R136, R137): always in Debug state (R107). -/
def State.dtr32Open (s : State) : Bool := s.inp.halted || s.dcc32UserOpen true

/-- DBGDRAR and DBGDSAR (R134). -/
def State.tdra32Open (s : State) : Bool :=
  match s.ps.el with
  | .el0 => !s.udccDis && !(s.el2Enabled && (s.tge || s.tde || s.tdra))
  | .el1 => !(s.el2Enabled && (s.tde || s.tdra))
  | .el2 => true
  | .el3 => true

/-- The registers of R135; `osdlr` is true for DBGOSDLR. -/
def State.tdosa32Open (s : State) (osdlr : Bool) : Bool :=
  let acts (c : Bool) : Bool := !osdlr || s.cfg.haveDoubleLock || c
  let quiet3 := !(s.a64EL3 && s.tdosa3 && acts s.cfg.mdcrEl3TdosaTrapsOsdlr)
  match s.ps.el with
  | .el0 => false
  | .el1 => quiet3 && !(s.el2Enabled && (s.tde || s.tdosa) && acts s.cfg.tdosaTrapsOsdlr)
  | .el2 => quiet3
  | .el3 => true

/-! ### When an access to a Performance Monitors register is performed (42_pmu_controls.md R167 to R169) -/

/-- A64: `user`, how PMUSERENR_EL0 gates the access at EL0; `fgt`, the fine-grained bit; `pmcr`, the register has the
TPMCR branch. -/
def State.pmuOpen (s : State) (present : Bool) (user : UserGate) (fgt : Option (Bool × Nat)) (pmcr : Bool) : Bool :=
  let quiet3 := !(s.a64EL3 && s.tpm3)
  let quiet2 := !(s.a64EL2 && (s.tpm || (pmcr && s.tpmcr)))
  let enabled := decide (user ≠ .undefinedAtEl0) && !s.gateClosed user
  present && match s.ps.el with
    | .el0 => enabled && quiet3 && quiet2 && !fgt.any (fun p => s.fgt0 p.1 p.2)
    | .el1 => quiet3 && quiet2 && !fgt.any (fun p => s.fgt1 p.1 p.2)
    | .el2 => quiet3
    | .el3 => true

/-- AArch32 (R168): `t9`, the register has the HSTR.T9 branches. -/
def State.pmu32Open (s : State) (present : Bool) (user : UserGate) (t9 : Bool) (fgt : Option (Bool × Nat))
    (pmcr : Bool) : Bool :=
  let quiet3 := !(s.a64EL3 && s.tpm3)
  let quiet2 := !(s.el2Enabled && (s.tpm || (pmcr && s.tpmcr)))
  let enabled := decide (user ≠ .undefinedAtEl0) && !s.gateClosed user
  present && match s.ps.el with
    | .el0 =>
      enabled && quiet3 && quiet2 && !fgt.any (fun p => s.fgt0 p.1 p.2)
        && !(t9 && s.hstrT 9 && ((s.a64EL2 && !(s.e2h && s.tge)) || s.a32EL2))
    | .el1 => quiet3 && quiet2 && !(t9 && s.hstrT 9 && s.el2Enabled)
    | .el2 => quiet3
    | .el3 => true

/-- Event counter `n` is implemented and accessible at the current level (R171), with a legal HPMN where one is used. -/
def State.counterOpen (s : State) (n : Nat) : Bool :=
  decide (n < s.pmcrN)
    && (match s.ps.el with
      | .el0 => !s.el2Enabled || (s.hpmnLegal && decide (n < s.hpmn))
      | .el1 => !s.el2Enabled || (s.hpmnLegal && decide (n < s.hpmn))
      | .el2 => true
      | .el3 => true)

/-! ### When an access to a profiling or trace filter register is performed (43_spe_trace.md R201, R204, R208, R209) -/

/-- `control`: the MDCR_EL2 test of the register (TPMS = 1, or E2PB<0> = 0). -/
def State.speOpen (s : State) (control read : Bool) (bit : Nat) : Bool :=
  let nspb3 := s.a64EL3 && ((!s.ctl.scrEl3.getLsbD 0 && s.nspb != 0b01) || (s.ctl.scrEl3.getLsbD 0 && s.nspb != 0b11))
  s.cfg.haveSPE && match s.ps.el with
    | .el0 => false
    | .el1 => !s.fgt1 read bit && !(s.a64EL2 && control) && !nspb3
    | .el2 => !nspb3
    | .el3 => true

/-- TRFCR_EL1. -/
def State.trfcrOpen (s : State) (read : Bool) : Bool :=
  let quiet3 := !(s.a64EL3 && s.ttrf3)
  s.cfg.haveTraceFilt && match s.ps.el with
    | .el0 => false
    | .el1 => (read || !s.fgt1 false 49) && !(s.a64EL2 && s.ttrf) && quiet3
    | .el2 => quiet3
    | .el3 => true

/-- TRFCR. -/
def State.trfcr32Open (s : State) : Bool :=
  let quiet3 := !(s.a64EL3 && s.ttrf3) && !(s.a32EL3 && s.sdcrTtrf)
  s.cfg.haveTraceFilt && match s.ps.el with
    | .el0 => false
    | .el1 => !(s.el2Enabled && s.hstrT 1) && s.nonSecure && !(s.el2Enabled && s.ttrf) && quiet3
    | .el2 => quiet3
    | .el3 => s.nonSecure

/-- HCR_EL2.<NV2,NV1,NV> == '1x1' redirects an EL1 access to memory (R201, R204; 41_debug_traps.md R117). -/
def State.redirectAny (s : State) : Bool := decide (s.ps.el = .el1) && s.a64EL2 && s.nv2 && s.nv

/-- HCR_EL2.<NV2,NV1,NV> == '111' redirects an EL1 access to memory (R201, R208). -/
def State.redirectAll (s : State) : Bool := decide (s.ps.el = .el1) && s.a64EL2 && s.nv2 && s.nv1 && s.nv

end Sys2Proof.Machine

namespace Sys2Proof

open Sys2Proof.Machine

/-! ### What an instruction may change -/

/-- The condition field, which only AArch32 instructions have. -/
def Instr.condField (i : Instr) : Option Cond :=
  match i.form with
  | .a64 _ _ _ => none
  | .cp _ c _ _ => some c
  | .cp64 _ c _ _ _ => some c
  | .ldst _ c _ _ _ _ _ => some c

/-- The general registers that the instruction may write: Xt of a read, Rt and Rt2 in AArch32 state, and the base
register of LDC and STC where W is set. -/
def Instr.writesX (i : Instr) : List XReg :=
  match i.form with
  | .a64 read _ t => if read then [t] else []
  | .cp read _ _ t => if read then [t.setWidth 5] else []
  | .cp64 read _ _ t t2 => if read then [t.setWidth 5, t2.setWidth 5] else []
  | .ldst _ _ _ _ w rn _ => if w then [rn.setWidth 5] else []

/-- The groups of System registers. -/
inductive RegGroup where
  /-- MDCR_EL2 and HDCR. -/
  | control
  /-- The debug registers of 41_debug_traps.md. -/
  | debug
  /-- The registers of 42_pmu_controls.md. -/
  | pmu
  /-- The registers of 43_spe_trace.md. -/
  | profiling
  deriving DecidableEq, Repr

/-- The group that the instruction names a register of, by its encoding (30_encoding.md section 5). -/
def Instr.group (i : Instr) : RegGroup :=
  match i.form with
  | .a64 _ e _ =>
    if e.op0 = 2 then .debug
    else if e.crn = 1 then (if e.crm = 1 then .control else .profiling)
    else if e.crn = 9 ∧ (e.crm = 9 ∨ e.crm = 10) then .profiling
    else .pmu
  | .cp _ _ e _ =>
    if e.coproc = 14 then .debug
    else if e.crn = 1 then (if e.crm = 1 then .control else .profiling)
    else .pmu
  | .cp64 _ _ e _ _ => if e.coproc = 14 then .debug else .pmu
  | .ldst _ _ _ _ _ _ _ => .debug

/-- Where in memory the instruction stores, and how many bytes: STC when its access is performed, and a write that
nested virtualization turns into a store. -/
def Instr.storeAt (i : Instr) (s : State) : Option (Word × Nat) :=
  let nv (b : Bool) (off : Nat) : Option (Word × Nat) := if b then some (s.nvAddress off, 8) else none
  match i with
  | .stcDbgdtrrxint c p u w rn imm8 =>
    if s.condPassed c && s.dtr32Open then some (s.memAddress ⟨p, u, w, rn, imm8⟩, 4) else none
  | .msrMdscrEl1 _ => nv (s.redirectAny && s.tdaOpen false 4) 0x158
  | .msrPmscrEl1 _ => nv (s.redirectAll && s.speOpen s.tpms false 26) 0x828
  | .msrPmsicrEl1 _ => nv (s.redirectAny && s.speOpen s.tpms false 29) 0x838
  | .msrPmsirrEl1 _ => nv (s.redirectAny && s.speOpen s.tpms false 31) 0x840
  | .msrPmsevfrEl1 _ => nv (s.redirectAny && s.speOpen s.tpms false 27) 0x830
  | .msrPmslatfrEl1 _ => nv (s.redirectAny && s.speOpen s.tpms false 32) 0x848
  | .msrPmblimitrEl1 _ => nv (s.redirectAny && s.speOpen (!s.e2pb.getLsbD 0) false 23) 0x800
  | .msrPmbptrEl1 _ => nv (s.redirectAny && s.speOpen (!s.e2pb.getLsbD 0) false 24) 0x810
  | .msrPmbsrEl1 _ => nv (s.redirectAny && s.speOpen (!s.e2pb.getLsbD 0) false 25) 0x820
  | .msrTrfcrEl1 _ => nv (s.redirectAll && s.trfcrOpen false) 0x880
  | _ => none

end Sys2Proof

namespace Sys2Proof.Machine

/-- Every byte of memory reads as before. -/
def State.sameMemory (s t : State) : Prop := ∀ a : Word, t.byteAt a = s.byteAt a

/-- Every byte of memory outside the `k` bytes at `a` reads as before. -/
def State.sameMemoryBut (s t : State) (a : Word) (k : Nat) : Prop :=
  ∀ b : Word, k ≤ (b - a).toNat → t.byteAt b = s.byteAt b

/-- The state with another value in MDCR_EL2. -/
def State.withMdcr (s : State) (v : Word) : State := { s with ctl := { s.ctl with mdcrEl2 := v } }

end Sys2Proof.Machine

namespace Sys2Proof

open Sys2Proof.Machine

/-- The state after the instruction is trapped to level `T`: an entry with the exception class and the syndrome of its
form (60_exceptions.md R223, R227 to R232). -/
def Instr.trapped (i : Instr) (s : State) (T : EL) : State :=
  match i.form with
  | .a64 read e t => s.takeTrap T 0x18 (iss18 e t read)
  | .cp read c e t => s.takeTrap T (if e.coproc = 15 then 0x03 else 0x05) (s.issMcr e c t read)
  | .cp64 read c e t t2 => s.takeTrap T (if e.coproc = 15 then 0x04 else 0x0C) (s.issMcrr e c t t2 read)
  | .ldst load c p u w rn imm8 => s.takeTrap T 0x06 (s.issLdst load c ⟨p, u, w, rn, imm8⟩)

end Sys2Proof

namespace Sys2Proof.Machine

/-! ### The accesses, grouped by the rule of their checks -/

/-- R111 to R113: MDCCINT_EL1, OSDTRRX_EL1 and OSDTRTX_EL1. -/
def dccAccesses (t : XReg) : List Instr :=
  [.mrsMdccintEl1 t, .msrMdccintEl1 t, .mrsOsdtrrxEl1 t, .msrOsdtrrxEl1 t, .mrsOsdtrtxEl1 t, .msrOsdtrtxEl1 t]

/-- R114 to R116: the transfer registers. -/
def dtrAccesses (t : XReg) : List Instr :=
  [.mrsDbgdtrEl0 t, .msrDbgdtrEl0 t, .mrsDbgdtrrxEl0 t, .msrDbgdtrtxEl0 t]

/-- An access with a fine-grained trap bit: of HDFGRTR_EL2 for a read, of HDFGWTR_EL2 for a write (10_state.md R40; bit
numbers: notes/assumptions 20). -/
structure FineAccess where
  instr : Instr
  read : Bool
  bit : Nat
  deriving DecidableEq, Repr

/-- R117, R118, R123 to R125: the registers with the TDA control. -/
def tdaAccesses (t : XReg) : List FineAccess :=
  [⟨.mrsMdscrEl1 t, true, 4⟩, ⟨.msrMdscrEl1 t, false, 4⟩, ⟨.mrsOseccrEl1 t, true, 10⟩, ⟨.msrOseccrEl1 t, false, 10⟩,
   ⟨.mrsDbgclaimsetEl1 t, true, 5⟩, ⟨.msrDbgclaimsetEl1 t, false, 5⟩, ⟨.mrsDbgclaimclrEl1 t, true, 5⟩,
   ⟨.msrDbgclaimclrEl1 t, false, 5⟩, ⟨.mrsDbgauthstatusEl1 t, true, 6⟩]

/-- R119, R120: breakpoint register `n`. -/
def breakAccesses (n : BitVec 4) (t : XReg) : List FineAccess :=
  [⟨.mrsDbgbvrEl1 n t, true, 1⟩, ⟨.msrDbgbvrEl1 n t, false, 1⟩, ⟨.mrsDbgbcrEl1 n t, true, 0⟩,
   ⟨.msrDbgbcrEl1 n t, false, 0⟩]

/-- R121, R122: watchpoint register `n`. -/
def watchAccesses (n : BitVec 4) (t : XReg) : List FineAccess :=
  [⟨.mrsDbgwvrEl1 n t, true, 3⟩, ⟨.msrDbgwvrEl1 n t, false, 3⟩, ⟨.mrsDbgwcrEl1 n t, true, 2⟩,
   ⟨.msrDbgwcrEl1 n t, false, 2⟩]

/-- R127, R128, R130: OSLAR_EL1, OSLSR_EL1 and DBGPRCR_EL1. -/
def osAccesses (t : XReg) : List FineAccess :=
  [⟨.msrOslarEl1 t, false, 8⟩, ⟨.mrsOslsrEl1 t, true, 9⟩, ⟨.mrsDbgprcrEl1 t, true, 7⟩, ⟨.msrDbgprcrEl1 t, false, 7⟩]

/-- R129: OSDLR_EL1. -/
def osdlrAccesses (t : XReg) : List FineAccess :=
  [⟨.mrsOsdlrEl1 t, true, 11⟩, ⟨.msrOsdlrEl1 t, false, 11⟩]

/-- R132: the AArch32 registers with the TDA control. -/
def tdaAccesses32 (c : Cond) (t : RReg) : List Instr :=
  [.mrcDbgdscrext c t, .mcrDbgdscrext c t, .mrcDbgwfar c t, .mcrDbgwfar c t, .mrcDbgvcr c t, .mcrDbgvcr c t,
   .mrcDbgoseccr c t, .mcrDbgoseccr c t, .mrcDbgclaimset c t, .mcrDbgclaimset c t, .mrcDbgclaimclr c t,
   .mcrDbgclaimclr c t, .mrcDbgauthstatus c t, .mrcDbgdevid c t, .mrcDbgdevid1 c t, .mrcDbgdevid2 c t]

/-- R132: breakpoint register `n`. -/
def breakAccesses32 (c : Cond) (n : BitVec 4) (t : RReg) : List Instr :=
  [.mrcDbgbvr c n t, .mcrDbgbvr c n t, .mrcDbgbcr c n t, .mcrDbgbcr c n t, .mrcDbgbxvr c n t, .mcrDbgbxvr c n t]

/-- R132: watchpoint register `n`. -/
def watchAccesses32 (c : Cond) (n : BitVec 4) (t : RReg) : List Instr :=
  [.mrcDbgwvr c n t, .mcrDbgwvr c n t, .mrcDbgwcr c n t, .mcrDbgwcr c n t]

/-- R133: DBGDCCINT, DBGDTRRXext and DBGDTRTXext. -/
def dccAccesses32 (c : Cond) (t : RReg) : List Instr :=
  [.mrcDbgdccint c t, .mcrDbgdccint c t, .mrcDbgdtrrxext c t, .mcrDbgdtrrxext c t, .mrcDbgdtrtxext c t,
   .mcrDbgdtrtxext c t]

/-- R134: DBGDRAR and DBGDSAR, by MRC and by MRRC. -/
def romAccesses32 (c : Cond) (t t2 : RReg) : List Instr :=
  [.mrcDbgdrar c t, .mrcDbgdsar c t, .mrrcDbgdrar c t t2, .mrrcDbgdsar c t t2]

/-- R135: DBGOSLAR, DBGOSLSR and DBGPRCR. -/
def osAccesses32 (c : Cond) (t : RReg) : List Instr :=
  [.mcrDbgoslar c t, .mrcDbgoslsr c t, .mrcDbgprcr c t, .mcrDbgprcr c t]

/-- R135: DBGOSDLR. -/
def osdlrAccesses32 (c : Cond) (t : RReg) : List Instr :=
  [.mrcDbgosdlr c t, .mcrDbgosdlr c t]

/-- R136, R137: DBGDTRRXint and DBGDTRTXint, by MRC, MCR, LDC and STC. -/
def dtrAccesses32 (c : Cond) (t : RReg) (p u w : Bool) (rn : RReg) (imm8 : BitVec 8) : List Instr :=
  [.mrcDbgdtrrxint c t, .mcrDbgdtrtxint c t, .ldcDbgdtrtxint c p u w rn imm8, .stcDbgdtrrxint c p u w rn imm8]

/-- An access to a Performance Monitors register, with what its rule says of it (42_pmu_controls.md R152 to R169). -/
structure PmuAccess where
  instr : Instr
  /-- The register exists. -/
  present : Bool
  /-- How PMUSERENR_EL0 gates the access at EL0. -/
  gate : UserGate
  /-- Its fine-grained trap bit (bit numbers: notes/assumptions 20). -/
  fgt : Option (Bool × Nat)
  /-- It has the TPMCR branch. -/
  pmcr : Bool
  /-- It has the HSTR.T9 branches. -/
  t9 : Bool
  /-- The event counter that the access is to, if it is to one. -/
  counter : Option Nat
  deriving DecidableEq, Repr

/-- The accesses to the Performance Monitors registers by MRS and MSR (R152 to R166). -/
def State.pmuAccesses (s : State) (t : XReg) (n : BitVec 5) : List PmuAccess :=
  let p := s.cfg.havePMUv3
  let x := if s.pmselrSel = 31 then none else some s.pmselrSel
  [⟨.mrsPmcrEl0 t, p, gateEN, none, true, false, none⟩,
   ⟨.msrPmcrEl0 t, p, gateEN, some (false, 21), true, false, none⟩,
   ⟨.mrsPmcntensetEl0 t, p, gateEN, some (true, 16), false, false, none⟩,
   ⟨.msrPmcntensetEl0 t, p, gateEN, some (false, 16), false, false, none⟩,
   ⟨.mrsPmcntenclrEl0 t, p, gateEN, some (true, 16), false, false, none⟩,
   ⟨.msrPmcntenclrEl0 t, p, gateEN, some (false, 16), false, false, none⟩,
   ⟨.mrsPmovsclrEl0 t, p, gateEN, some (true, 18), false, false, none⟩,
   ⟨.msrPmovsclrEl0 t, p, gateEN, some (false, 18), false, false, none⟩,
   ⟨.msrPmswincEl0 t, p, gateSW, some (false, 20), false, false, none⟩,
   ⟨.mrsPmselrEl0 t, p, gateER, some (true, 19), false, false, none⟩,
   ⟨.msrPmselrEl0 t, p, gateER, some (false, 19), false, false, none⟩,
   ⟨.mrsPmceid0El0 t, p, gateEN, none, false, false, none⟩,
   ⟨.mrsPmceid1El0 t, p, gateEN, none, false, false, none⟩,
   ⟨.mrsPmccntrEl0 t, p, gateCR, some (true, 15), false, false, none⟩,
   ⟨.msrPmccntrEl0 t, p, gateEN, some (false, 15), false, false, none⟩,
   ⟨.mrsPmxevtyperEl0 t, p, gateEN, some (true, 13), false, false, x⟩,
   ⟨.msrPmxevtyperEl0 t, p, gateEN, some (false, 13), false, false, x⟩,
   ⟨.mrsPmxevcntrEl0 t, p, gateER, some (true, 12), false, false, some s.pmselrSel⟩,
   ⟨.msrPmxevcntrEl0 t, p, gateEN, some (false, 12), false, false, some s.pmselrSel⟩,
   ⟨.mrsPmuserenrEl0 t, p, .open, some (true, 57), false, false, none⟩,
   ⟨.msrPmuserenrEl0 t, p, .undefinedAtEl0, some (false, 57), false, false, none⟩,
   ⟨.mrsPmovssetEl0 t, p, gateEN, some (true, 18), false, false, none⟩,
   ⟨.msrPmovssetEl0 t, p, gateEN, some (false, 18), false, false, none⟩,
   ⟨.mrsPmintensetEl1 t, p, .undefinedAtEl0, some (true, 17), false, false, none⟩,
   ⟨.msrPmintensetEl1 t, p, .undefinedAtEl0, some (false, 17), false, false, none⟩,
   ⟨.mrsPmintenclrEl1 t, p, .undefinedAtEl0, some (true, 17), false, false, none⟩,
   ⟨.msrPmintenclrEl1 t, p, .undefinedAtEl0, some (false, 17), false, false, none⟩,
   ⟨.mrsPmmirEl1 t, p && s.cfg.havePMUv3p4, .undefinedAtEl0, some (true, 22), false, false, none⟩,
   ⟨.mrsPmccfiltrEl0 t, p, gateEN, some (true, 14), false, false, none⟩,
   ⟨.msrPmccfiltrEl0 t, p, gateEN, some (false, 14), false, false, none⟩,
   ⟨.mrsPmevcntrEl0 n t, p, gateER, some (true, 12), false, false, some n.toNat⟩,
   ⟨.msrPmevcntrEl0 n t, p, gateEN, some (false, 12), false, false, some n.toNat⟩,
   ⟨.mrsPmevtyperEl0 n t, p, gateEN, some (true, 13), false, false, some n.toNat⟩,
   ⟨.msrPmevtyperEl0 n t, p, gateEN, some (false, 13), false, false, some n.toNat⟩]

/-- The accesses to them in AArch32 state (R168). -/
def State.pmuAccesses32 (s : State) (c : Cond) (t t2 : RReg) (n : BitVec 5) : List PmuAccess :=
  let p := s.cfg.havePMUv3
  let x := if s.pmselrSel = 31 then none else some s.pmselrSel
  [⟨.mrcPmcr c t, p, gateEN, none, true, true, none⟩,
   ⟨.mcrPmcr c t, p, gateEN, some (false, 21), true, true, none⟩,
   ⟨.mrcPmcntenset c t, p, gateEN, some (true, 16), false, true, none⟩,
   ⟨.mcrPmcntenset c t, p, gateEN, some (false, 16), false, true, none⟩,
   ⟨.mrcPmcntenclr c t, p, gateEN, some (true, 16), false, true, none⟩,
   ⟨.mcrPmcntenclr c t, p, gateEN, some (false, 16), false, true, none⟩,
   ⟨.mrcPmovsr c t, p, gateEN, some (true, 18), false, true, none⟩,
   ⟨.mcrPmovsr c t, p, gateEN, some (false, 18), false, true, none⟩,
   ⟨.mcrPmswinc c t, p, gateSW, some (false, 20), false, true, none⟩,
   ⟨.mrcPmselr c t, p, gateER, some (true, 19), false, true, none⟩,
   ⟨.mcrPmselr c t, p, gateER, some (false, 19), false, true, none⟩,
   ⟨.mrcPmceid0 c t, p, gateEN, none, false, true, none⟩,
   ⟨.mrcPmceid1 c t, p, gateEN, none, false, true, none⟩,
   ⟨.mrcPmceid2 c t, p && s.cfg.havePMUv3p1, gateEN, none, false, true, none⟩,
   ⟨.mrcPmceid3 c t, p && s.cfg.havePMUv3p1, gateEN, none, false, true, none⟩,
   ⟨.mrcPmccntr c t, p, gateCR, some (true, 15), false, true, none⟩,
   ⟨.mcrPmccntr c t, p, gateEN, some (false, 15), false, true, none⟩,
   ⟨.mrcPmxevtyper c t, p, gateEN, some (true, 13), false, true, x⟩,
   ⟨.mcrPmxevtyper c t, p, gateEN, some (false, 13), false, true, x⟩,
   ⟨.mrcPmxevcntr c t, p, gateER, some (true, 12), false, true, some s.pmselrSel⟩,
   ⟨.mcrPmxevcntr c t, p, gateEN, some (false, 12), false, true, some s.pmselrSel⟩,
   ⟨.mrcPmuserenr c t, p, .open, some (true, 57), false, true, none⟩,
   ⟨.mcrPmuserenr c t, p, .undefinedAtEl0, some (false, 57), false, true, none⟩,
   ⟨.mrcPmintenset c t, p, .undefinedAtEl0, some (true, 17), false, true, none⟩,
   ⟨.mcrPmintenset c t, p, .undefinedAtEl0, some (false, 17), false, true, none⟩,
   ⟨.mrcPmintenclr c t, p, .undefinedAtEl0, some (true, 17), false, true, none⟩,
   ⟨.mcrPmintenclr c t, p, .undefinedAtEl0, some (false, 17), false, true, none⟩,
   ⟨.mrcPmovsset c t, p, gateEN, some (true, 18), false, true, none⟩,
   ⟨.mcrPmovsset c t, p, gateEN, some (false, 18), false, true, none⟩,
   ⟨.mrcPmmir c t, p && s.cfg.havePMUv3p4, .undefinedAtEl0, some (true, 22), false, true, none⟩,
   ⟨.mrcPmccfiltr c t, p, gateEN, some (true, 14), false, false, none⟩,
   ⟨.mcrPmccfiltr c t, p, gateEN, some (false, 14), false, false, none⟩,
   ⟨.mrcPmevcntr c n t, p, gateER, some (true, 12), false, false, some n.toNat⟩,
   ⟨.mcrPmevcntr c n t, p, gateEN, some (false, 12), false, false, some n.toNat⟩,
   ⟨.mrcPmevtyper c n t, p, gateEN, some (true, 13), false, false, some n.toNat⟩,
   ⟨.mcrPmevtyper c n t, p, gateEN, some (false, 13), false, false, some n.toNat⟩,
   ⟨.mrrcPmccntr c t t2, p, gateCR, some (true, 15), false, true, none⟩,
   ⟨.mcrrPmccntr c t t2, p, gateEN, some (false, 15), false, true, none⟩]

/-- The access is not one that EL0 may not make, and PMUSERENR_EL0 does not close it there (R169). -/
def State.gateOpen (s : State) (a : PmuAccess) : Bool :=
  decide (s.ps.el ≠ .el0) || (decide (a.gate ≠ .undefinedAtEl0) && !s.gateClosed a.gate)

/-- TPM, or TPMCR for a register with that branch (R169). -/
def State.tpmTrap (s : State) (a : PmuAccess) : Bool := s.tpm || (a.pmcr && s.tpmcr)

/-- The fine-grained bit of the access traps it at EL1, or at EL0. -/
def State.fineTrap (s : State) (a : PmuAccess) : Bool :=
  match s.ps.el with
  | .el0 => a.fgt.any fun p => s.fgt0 p.1 p.2
  | .el1 => a.fgt.any fun p => s.fgt1 p.1 p.2
  | _ => false

/-- The access is to no event counter, or to one that is implemented and accessible at the level. -/
def State.counterFree (s : State) (a : PmuAccess) : Bool := a.counter.all fun n => s.counterOpen n

/-- HSTR_EL2.T9 or HSTR.T9 traps the access (R168). -/
def State.t9Trap (s : State) (a : PmuAccess) : Bool :=
  a.t9 && s.hstrT 9 && match s.ps.el with
    | .el0 => (s.a64EL2 && !(s.e2h && s.tge)) || s.a32EL2
    | .el1 => s.el2Enabled
    | _ => false

/-- No check of EL2 stops the A64 access (R169). -/
def State.el2Quiet (s : State) (a : PmuAccess) : Bool :=
  match s.ps.el with
  | .el0 => !s.fineTrap a && s.counterFree a && !(s.a64EL2 && s.tpmTrap a)
  | .el1 => !s.fineTrap a && s.counterFree a && !(s.a64EL2 && s.tpmTrap a)
  | _ => true

/-- No check of EL2 stops the AArch32 access (R168). -/
def State.el2Quiet32 (s : State) (a : PmuAccess) : Bool :=
  match s.ps.el with
  | .el0 => !s.t9Trap a && !s.fineTrap a && s.counterFree a && !(s.el2Enabled && s.tpmTrap a)
  | .el1 => !s.t9Trap a && !(s.el2Enabled && s.tpmTrap a)
  | _ => true

/-- What a closed enable of EL1 does to an AArch32 access at EL0 (R168; 41_debug_traps.md R134, R137). -/
def State.userTrap (s : State) (i : Instr) : State :=
  if s.inp.el1A32 = false then i.trapped s (if s.a64EL2 && s.tge then .el2 else .el1)
  else if s.a64EL2 && s.tge then i.trapped s .el2
  else if s.a32EL2 && s.tge then s.takeHyp undefinedEsr
  else s.takeUndefined

/-- The behaviours that R167 permits for an access to event counter `n` that is not accessible: `zero` is the state
after a transfer of zero, `reach k` the one after an access to counter `k` (31: PMCCFILTR_EL0). -/
def State.permitted (s : State) (i : Instr) (n : Nat) (zero : State) (reach : Nat → State) (indirect type : Bool) :
    Prop :=
  exec i s = .next s.takeUndefined ∨ exec i s = .next zero ∨ exec i s = .next s.advance ∨
  (s.el2Enabled = true ∧ (s.ps.el = .el0 ∨ s.ps.el = .el1) ∧ n < s.pmcrN ∧ exec i s = .next (i.trapped s .el2)) ∨
  (indirect = true ∧ ∃ k, s.counterOpen k = true ∧ exec i s = .next (reach k)) ∨
  (indirect = true ∧ type = true ∧ exec i s = .next (reach 31))

/-- The profiling control registers (43_spe_trace.md R201, R210 to R216). -/
def profilingAccesses (t : XReg) : List FineAccess :=
  [⟨.mrsPmscrEl1 t, true, 26⟩, ⟨.msrPmscrEl1 t, false, 26⟩, ⟨.mrsPmsicrEl1 t, true, 29⟩, ⟨.msrPmsicrEl1 t, false, 29⟩,
   ⟨.mrsPmsirrEl1 t, true, 31⟩, ⟨.msrPmsirrEl1 t, false, 31⟩, ⟨.mrsPmsfcrEl1 t, true, 28⟩,
   ⟨.msrPmsfcrEl1 t, false, 28⟩, ⟨.mrsPmsevfrEl1 t, true, 27⟩, ⟨.msrPmsevfrEl1 t, false, 27⟩,
   ⟨.mrsPmslatfrEl1 t, true, 32⟩, ⟨.msrPmslatfrEl1 t, false, 32⟩, ⟨.mrsPmsidrEl1 t, true, 30⟩]

/-- The Profiling Buffer registers (R204, R217 to R219). -/
def bufferAccesses (t : XReg) : List FineAccess :=
  [⟨.mrsPmblimitrEl1 t, true, 23⟩, ⟨.msrPmblimitrEl1 t, false, 23⟩, ⟨.mrsPmbptrEl1 t, true, 24⟩,
   ⟨.msrPmbptrEl1 t, false, 24⟩, ⟨.mrsPmbsrEl1 t, true, 25⟩, ⟨.msrPmbsrEl1 t, false, 25⟩]

/-- NSPBTrap of 43_spe_trace.md: EL3 is using AArch64 and MDCR_EL3.NSPB is not 0b11 in Non-secure state, or not 0b01 in
Secure state. -/
abbrev State.nspbTraps (s : State) : Prop :=
  s.a64EL3 = true ∧ if s.ctl.scrEl3.getLsbD 0 then s.nspb ≠ 3 else s.nspb ≠ 1

end Sys2Proof.Machine
end

