-- ==== Sys2Proof/Certificates/Slice0/Obligations.lean ====
section
/-! DEFINITION. The statements for the provers. Each docstring says what its statement claims and names the log entry of
every choice of the model that it rests on; Sys2Proof/Tests/Slice0.lean has a witness for the hypotheses of each. -/

section ObligationStatements

open Sys2Proof Sys2Proof.Machine

/-- For every well-formed instruction, with every operand at every value its encoding admits, the bytes that the
encoder gives decode to that instruction in its own instruction set; an AArch32 instruction with condition field
0b1110 is also read back from its T32 bytes. (30_encoding.md, R62, R65) -/
def Obligations.DecodeInvertsEncode : Prop :=
  ∀ i : Instr, i.wellFormed = true →
    decode i.instrSet (encodeBytes i) = .instr i ∧
    (i.condField = some 14 → decode .t32 (bytesOfWord .t32 (encode i)) = .instr i)

/-- In each of the three instruction sets, a word that decodes to an instruction is the word that the encoder gives
for that instruction; the instruction is well formed, and it is an A64 one exactly when the set is A64. No bit of a
decoded word is ignored. (30_encoding.md, R71) -/
def Obligations.EncodeInvertsDecode : Prop :=
  ∀ (isa : InstrSet) (w : Word32) (i : Instr), decodeWord isa w = .instr i →
    encode i = w ∧ i.wellFormed = true ∧ (i.isA64 = true ↔ isa = .a64)

/-- Fourteen words that the rules write out beside an instruction (R80, R81, R84, R85, R119 to R122, R165 to R169,
R208, R210, R217) decode to that instruction. (30_encoding.md, R62, R65) -/
def Obligations.WorkedExampleWordsDecode : Prop :=
  decodeWord .a64 0xD53C1123 = .instr (.mrsMdcrEl2 3) ∧
  decodeWord .a64 0xD51C1120 = .instr (.msrMdcrEl2 0) ∧
  decodeWord .a64 0xD5300580 = .instr (.mrsDbgbvrEl1 5 0) ∧
  decodeWord .a64 0xD51003A1 = .instr (.msrDbgbcrEl1 3 1) ∧
  decodeWord .a64 0xD5300FE0 = .instr (.mrsDbgwcrEl1 15 0) ∧
  decodeWord .a64 0xD53B9C23 = .instr (.mrsPmcntensetEl0 3) ∧
  decodeWord .a64 0xD53BE8C1 = .instr (.mrsPmevcntrEl0 6 1) ∧
  decodeWord .a64 0xD53BEFE0 = .instr (.mrsPmccfiltrEl0 0) ∧
  decodeWord .a64 0xD5389904 = .instr (.mrsPmscrEl1 4) ∧
  decodeWord .a64 0xD5189A07 = .instr (.msrPmblimitrEl1 7) ∧
  decodeWord .a64 0xD5381229 = .instr (.mrsTrfcrEl1 9) ∧
  decodeWord .a32 0xEE912F31 = .instr (.mrcHdcr 14 2) ∧
  decodeWord .a32 0xEE811F31 = .instr (.mcrHdcr 14 1) ∧
  decodeWord .a32 0xEE192F3C = .instr (.mrcPmcntenset 14 2)

/-- For every Rt, the write form of each read-only register that R68 lists (MDCCSR_EL0, MDRAR_EL1, OSLSR_EL1,
DBGAUTHSTATUS_EL1, PMCEID0_EL0, PMCEID1_EL0, PMMIR_EL1, PMSIDR_EL1) and the read form of OSLAR_EL1 and PMSWINC_EL0 is
an unallocated encoding, and a step that fetches an unallocated encoding takes the Undefined exception. An AArch32 one
whose condition check fails only moves on, the model's choice (notes/assumptions 33 and 41). (30_encoding.md, R68,
R226) -/
def Obligations.UnallocatedDirectionsAreUndefined : Prop :=
  (∀ t : XReg,
    decodeWord .a64 (0xD5130100 ||| t.setWidth 32) = .unallocated (0xD5130100 ||| t.setWidth 32) ∧
    decodeWord .a64 (0xD5101000 ||| t.setWidth 32) = .unallocated (0xD5101000 ||| t.setWidth 32) ∧
    decodeWord .a64 (0xD5101180 ||| t.setWidth 32) = .unallocated (0xD5101180 ||| t.setWidth 32) ∧
    decodeWord .a64 (0xD5107EC0 ||| t.setWidth 32) = .unallocated (0xD5107EC0 ||| t.setWidth 32) ∧
    decodeWord .a64 (0xD51B9CC0 ||| t.setWidth 32) = .unallocated (0xD51B9CC0 ||| t.setWidth 32) ∧
    decodeWord .a64 (0xD51B9CE0 ||| t.setWidth 32) = .unallocated (0xD51B9CE0 ||| t.setWidth 32) ∧
    decodeWord .a64 (0xD5189EC0 ||| t.setWidth 32) = .unallocated (0xD5189EC0 ||| t.setWidth 32) ∧
    decodeWord .a64 (0xD51899E0 ||| t.setWidth 32) = .unallocated (0xD51899E0 ||| t.setWidth 32) ∧
    decodeWord .a64 (0xD5301080 ||| t.setWidth 32) = .unallocated (0xD5301080 ||| t.setWidth 32) ∧
    decodeWord .a64 (0xD53B9C80 ||| t.setWidth 32) = .unallocated (0xD53B9C80 ||| t.setWidth 32)) ∧
  (∀ (s : State) (w : Word32), s.events = [] → s.pcAligned = true → s.fetch = .unallocated w →
    (s.ps.nRW = false ∨ s.condPassed (w.extractLsb' 28 4) = true → step s = .next s.takeUndefined.tick) ∧
    (s.ps.nRW = true → s.condPassed (w.extractLsb' 28 4) = false → step s = .next s.advance.tick))

/-- The ISS of EC 0x18 is (op0 << 20) | (op2 << 17) | (op1 << 14) | (CRn << 10) | (t << 5) | (CRm << 1) | read, the
fields being those of the instruction word (op0 bits 20:19, op1 18:16, CRn 15:12, CRm 11:8, op2 7:5, t 4:0, read 21),
with the three worked examples of the rule. (R228) -/
def Obligations.SyndromeOfA64Access : Prop :=
  (∀ (e : SysEnc) (t : XReg) (read : Bool),
    (iss18 e t read).toNat = e.op0.toNat * 2 ^ 20 + e.op2.toNat * 2 ^ 17 + e.op1.toNat * 2 ^ 14 + e.crn.toNat * 2 ^ 10
      + t.toNat * 2 ^ 5 + e.crm.toNat * 2 + (if read then 1 else 0)) ∧
  (∀ (w : Word32) (i : Instr) (e : SysEnc) (t : XReg) (read : Bool), decodeWord .a64 w = .instr i →
    i.form = .a64 read e t →
    e.op0 = w.extractLsb' 19 2 ∧ e.op1 = w.extractLsb' 16 3 ∧ e.crn = w.extractLsb' 12 4 ∧ e.crm = w.extractLsb' 8 4 ∧
    e.op2 = w.extractLsb' 5 3 ∧ t = w.extractLsb' 0 5 ∧ read = w.getLsbD 21) ∧
  esrValue 0x18 true (iss18 ⟨3, 4, 1, 1, 1⟩ 0 true) = 0x62330403 ∧
  esrValue 0x18 true (iss18 ⟨3, 4, 1, 1, 1⟩ 5 false) = 0x623304A2 ∧
  esrValue 0x18 true (iss18 ⟨2, 0, 0, 2, 2⟩ 2 true) = 0x62240045

/-- The three AArch32 syndromes are the sums of their fields at the bit positions of R229, R230 and R232. CV and COND
of an A32 instruction: CV 1 and COND 0b1110 where the condition field is 0b1110, CV 1 and the condition field where
the check fails, else one of the two; of a T32 instruction: by the policy, CV 0, or CV 1 with the condition in force.
Registers R0 to R12 are reported by their own number, and R13 and R14 too at EL0; at EL0 no register is reported above
15, R15 included. The model's choices: that under the second policy COND is the condition in force (R231 leaves that
open: notes/assumptions 12), which condition is in force in an IT block (notes/assumptions 9), and that R13 and R14
above EL0 are free values (notes/assumptions 11). LDC and STC with Rn = 15 are not spoken of (notes/assumptions 35).
(R229, R230, R231, R232, R233) -/
def Obligations.SyndromeOfAArch32Access : Prop :=
  ∀ (s : State) (c : Cond) (t t2 : RReg) (read : Bool),
    (∀ e : CpEnc, (s.issMcr e c t read).toNat =
      (s.cvCond c).toNat * 2 ^ 20 + e.opc2.toNat * 2 ^ 17 + e.opc1.toNat * 2 ^ 14 + e.crn.toNat * 2 ^ 10
        + (s.regView .rtView t).toNat * 2 ^ 5 + e.crm.toNat * 2 + (if read then 1 else 0)) ∧
    (∀ e : Cp64Enc, (s.issMcrr e c t t2 read).toNat =
      (s.cvCond c).toNat * 2 ^ 20 + e.opc1.toNat * 2 ^ 16 + (s.regView .rt2View t2).toNat * 2 ^ 10
        + (s.regView .rtView t).toNat * 2 ^ 5 + e.crm.toNat * 2 + (if read then 1 else 0)) ∧
    (∀ m : MemOperand, m.rn ≠ 15 → (s.issLdst read c m).toNat =
      (s.cvCond c).toNat * 2 ^ 20 + m.imm8.toNat * 2 ^ 12 + (s.regView .rtView m.rn).toNat * 2 ^ 5
        + (if m.u then 16 else 0) + (if m.p then 4 else 0) + (if m.w then 2 else 0) + (if read then 1 else 0)) ∧
    (s.ps.thumb = false → c = 14 → s.cvCond c = 0x1E) ∧
    (s.ps.thumb = false → s.condPassed c = false → s.cvCond c = 1#1 ++ c) ∧
    (s.ps.thumb = false → s.cvCond c = 0x1E ∨ s.cvCond c = 1#1 ++ c) ∧
    (s.ps.thumb = true → s.cfg.t32CvPolicy = .cv0 → (s.cvCond c).getLsbD 4 = false) ∧
    (s.ps.thumb = true → s.cfg.t32CvPolicy = .cv1 → s.cvCond c = 1#1 ++ s.condInForce c) ∧
    (t.toNat ≤ 12 ∨ (t.toNat ≤ 14 ∧ s.ps.el = .el0) → (s.regView .rtView t).toNat = t.toNat) ∧
    (s.ps.el = .el0 → (s.regView .rtView t).toNat ≤ 15 ∧ (s.regView .rt2View t2).toNat ≤ 15)

/-- With no input waiting and the pc aligned, when the bytes at the pc decode to a well-formed instruction, the step
is exec of that instruction at that state, and the next state is that of exec with the step counter (the model's own
field, notes/assumptions 2) one higher. Inputs that wait come first (notes/assumptions 26). (30_encoding.md,
10_state.md, R35) -/
def Obligations.StepRunsDecodedInstruction : Prop :=
  ∀ (s : State) (i : Instr), s.events = [] → s.pcAligned = true → s.fetch = .instr i → i.wellFormed = true →
    step s = tickOutcome (exec i s) ∧
    ∀ t, exec i s = .next t → step s = .next { t with draws := t.draws + 1 }

/-- From every state that meets State.Inv (memory in canonical form; RES0 bits of MDCR_EL2 zero unless the
implementation stores them; PMCR_EL0.N the number of counters and P, C zero; 32-bit event counters without
ARMv8.5-PMU; the current level implemented, and EL2 only while enabled; the Execution state the one of the current
level; T and IT only in AArch32 state), whatever the step does (an instruction, an exception, an exception return, a
reset, a counter event), the next state meets it. (10_state.md, R13, R41, R45, R220, R241, R242) -/
def Obligations.StepKeepsInvariant : Prop :=
  ∀ s t : State, s.Inv → step s = .next t → t.Inv

/-- State.Inv holds of State.reset, and of the Cold-reset state of every configuration. What the spec leaves UNKNOWN
in that state is zero, the model's choice (notes/assumptions 3 and 4). (70_reset_and_hazards.md, R260, R263, R268) -/
def Obligations.ResetMeetsInvariant : Prop :=
  State.reset.Inv ∧ ∀ c : Config, (State.resetWith c).Inv

/-- Whatever the step does, the configuration is unchanged and the step counter, which names the free values of a
step, is one higher. Both are the model's own (notes/assumptions 1 and 2). (00_scope.md, 92_eei_decisions.md) -/
def Obligations.StepKeepsConfiguration : Prop :=
  ∀ s t : State, step s = .next t → t.cfg = s.cfg ∧ t.draws = s.draws + 1

/-- Whatever an instruction does (an access, a NOP, an exception, a halt), every general register outside its
destinations reads as before. The destinations are Xt of MRS, Rt of MRC, Rt and Rt2 of MRRC, and the base register of
LDC and STC with W set; MSR, MCR and MCRR have none. A destination reads back what is written to it and leaves every
other register alone; number 31 reads as zero and discards what is written. The model's choices: an entry to AArch32
state leaves every general register as it was (a PE writes a banked link register; notes/assumptions 24), LDC and STC
write the base back where W is set (notes/assumptions 35), and in AArch32 state a write of R0 to R14 keeps the high
half of Xt and R15 discards it (notes/assumptions 10). (10_state.md, R34, R63, R240) -/
def Obligations.RegisterFrame : Prop :=
  (∀ (i : Instr) (s t : State) (r : XReg), exec i s = .next t → r ∉ i.writesX → t.getX r = s.getX r) ∧
  (∀ (s : State) (v : Word), s.getX 31 = 0 ∧ s.setX 31 v = s) ∧
  (∀ (s : State) (v : Word) (r r' : XReg), r ≠ 31 → (s.setX r v).getX r' = if r' = r then v else s.getX r') ∧
  (∀ (s : State) (v : Word32) (r : RReg), s.setR 15 v = s ∧
    (r ≠ 15 → (s.setR r v).getX (r.setWidth 5) = (s.getX (r.setWidth 5)).extractLsb' 32 32 ++ v))

/-- Instr.storeAt computes where the instruction stores, with the address functions of its meaning: 4 bytes at the
LDC/STC address for an STC that is performed, 8 bytes at VNCR_EL2 plus the offset for a write that nested
virtualization redirects, nothing for every other instruction or state. Where it gives no address every byte of memory
reads as before; where it gives one every byte outside the stored ones does. The two addresses are the model's: of LDC
and STC notes/assumptions 35, of nested virtualization notes/assumptions 36. (20_memory.md, R50, R136,
43_spe_trace.md) -/
def Obligations.MemoryFrame : Prop :=
  ∀ (i : Instr) (s t : State), exec i s = .next t →
    (i.storeAt s = none → s.sameMemory t) ∧
    (∀ (a : Word) (k : Nat), i.storeAt s = some (a, k) → s.sameMemoryBut t a k)

/-- Every instruction answers a next state in every state. Either the PE halts and nothing else changes (the
software-access debug halt of R119); or it completes: the pc moves on by 4, PSTATE is as before but for IT, and the
exception registers and the inputs are as before; or it takes one exception and only the pc, PSTATE and the exception
registers change, the new level is EL1, EL2 or EL3 and not lower than the old one, and the Execution state is the one
that level uses. That the halt changes nothing else is the model's choice (notes/assumptions 31), and so is what an
entry to AArch32 state leaves alone (notes/assumptions 24). (R239, R240, R220, R35) -/
def Obligations.OneExceptionOrOneAccess : Prop :=
  ∀ (i : Instr) (s : State), ∃ t, exec i s = .next t ∧
    (t = { s with inp := { s.inp with halted := true } } ∨
     (t.pc = s.pc + 4 ∧ t.ps = { s.ps with it := t.ps.it } ∧ (s.ps.thumb = false → t.ps = s.ps) ∧
      t.exc = s.exc ∧ t.inp = s.inp) ∨
     (t = { s with pc := t.pc, ps := t.ps, exc := t.exc } ∧ t.ps.el ≠ .el0 ∧ s.ps.el.num ≤ t.ps.el.num ∧
      t.ps.nRW = s.elA32 t.ps.el))

/-- Whatever an instruction does, the condition flags N, Z, C, V and the fields TCO, DIT, UAO, PAN, SSBS, BTYPE of
PSTATE are as before, and the Exception level does not fall. After an entry to AArch32 state the fields A, I, F, SS,
IL, T and IT are free values (notes/assumptions 24). (10_state.md, R36, R220, R241) -/
def Obligations.FlagsNeverChange : Prop :=
  ∀ (i : Instr) (s t : State), exec i s = .next t →
    t.ps.n = s.ps.n ∧ t.ps.z = s.ps.z ∧ t.ps.c = s.ps.c ∧ t.ps.v = s.ps.v ∧
    t.ps.tco = s.ps.tco ∧ t.ps.dit = s.ps.dit ∧ t.ps.uao = s.ps.uao ∧ t.ps.pan = s.ps.pan ∧ t.ps.ssbs = s.ps.ssbs ∧
    t.ps.btype = s.ps.btype ∧ s.ps.el.num ≤ t.ps.el.num

/-- Instr.group names the group of the register in the encoding: MDCR_EL2 and HDCR, the debug registers, the
Performance Monitors registers, the profiling and trace filter registers. Whatever the instruction does, the registers
of the other groups are unchanged; of the control registers only MDCR_EL2 can change; the configuration and the
waiting inputs are unchanged; of the inputs only the Debug state can change. (R89, R108, R240, 30_encoding.md) -/
def Obligations.SystemRegisterFrame : Prop :=
  ∀ (i : Instr) (s t : State), exec i s = .next t →
    (i.group ≠ .control → t.ctl = s.ctl) ∧ t.ctl = { s.ctl with mdcrEl2 := t.ctl.mdcrEl2 } ∧
    (i.group ≠ .debug → t.dbg = s.dbg) ∧ (i.group ≠ .pmu → t.pmu = s.pmu) ∧
    (i.group ≠ .profiling → t.spe = s.spe) ∧ t.cfg = s.cfg ∧ t.events = s.events ∧
    t.inp = { s.inp with halted := t.inp.halted }

/-- With trap_failed_condition false, an AArch32 instruction whose condition check fails only moves on (the pc by 4,
IT by one instruction): no check of its accessor is made and no exception is taken. The condition in force of a T32
instruction is that of its IT block (notes/assumptions 9). (R231, R65) -/
def Obligations.FailedConditionIsANop : Prop :=
  ∀ (i : Instr) (s : State) (c : Cond), i.condField = some c → s.condPassed c = false →
    s.cfg.trapFailedCondition = false → exec i s = .next s.advance

/-- While Halted() is true, MRS and MSR of DBGDTR_EL0, DBGDTRRX_EL0 and DBGDTRTX_EL0, and, under a condition that
passes, MRC of DBGDTRRXint, MCR of DBGDTRTXint, STC of DBGDTRRXint and LDC of DBGDTRTXint are performed, whatever
MDSCR_EL1, MDCR_EL2 and MDCR_EL3 hold and at every Exception level. The model's choices: the values that DBGDTR_EL0
reads and that the status register takes are free (notes/assumptions 15), the address and the base write-back of LDC
and STC (notes/assumptions 35), and the byte order of their access (notes/assumptions 7). (R107, R114, R115, R116,
R136, R137) -/
def Obligations.DebugStateTransfersAreNeverTrapped : Prop :=
  ∀ (s : State) (t : XReg) (c : Cond) (p u w : Bool) (rn : RReg) (imm8 : BitVec 8) (r : RReg), s.inp.halted = true →
    exec (.mrsDbgdtrEl0 t) s = .next (((s.dtrRxTaken).setX t (s.freeDebug 0)).advance) ∧
    exec (.msrDbgdtrEl0 t) s = .next ((s.dtrWrite (s.getX t)).advance) ∧
    exec (.mrsDbgdtrrxEl0 t) s = .next (((s.dtrRxTaken).setX t (zext64 s.dbg.dtrRx)).advance) ∧
    exec (.msrDbgdtrtxEl0 t) s = .next ((s.dtrTxWrite (low32 (s.getX t))).advance) ∧
    (s.condPassed c = true →
       exec (.mrcDbgdtrrxint c r) s = .next (((s.dtrRxTaken).setR r (s.dbg.dtrRx)).advance) ∧
       exec (.mcrDbgdtrtxint c r) s = .next ((s.dtrTxWrite (s.getR .r15 r)).advance) ∧
       exec (.ldcDbgdtrtxint c p u w rn imm8) s = .next (((s.memWriteBack ⟨p, u, w, rn, imm8⟩ (s.memOffset
         ⟨p, u, w, rn, imm8⟩)).dtrTxWrite (BitVec.ofNat 32 (s.load s.bigEndianData (s.memAddress ⟨p, u, w, rn, imm8⟩)
           4))).advance) ∧
       exec (.stcDbgdtrrxint c p u w rn imm8) s = .next (((s.store s.bigEndianData (s.memAddress ⟨p, u, w, rn, imm8⟩)
         4 s.dbg.dtrRx.toNat).dtrRxTaken.memWriteBack ⟨p, u, w, rn, imm8⟩ (s.memOffset ⟨p, u, w, rn, imm8⟩)).advance))

/-- MRS <Xt>, MDCR_EL2: Undefined at EL0; at EL1 a trap to EL2 with EC 0x18 and ISS 0x330403 | (t << 5) when EL2 is
enabled and HCR_EL2.NV is 1, else Undefined; at EL2 a trap to EL3 with the same syndrome when EL3 is implemented,
using AArch64 and MDCR_EL3.TDA is 1, else, as at EL3, Xt takes ReadValue() and the pc moves on by 4. Nothing else
changes. (R80) -/
def Obligations.MdcrReadByLevel : Prop :=
  ∀ (s : State) (t : XReg),
    (s.ps.el = .el0 → exec (.mrsMdcrEl2 t) s = .next s.takeUndefined) ∧
    (s.ps.el = .el1 → s.el2Enabled = true → s.cfg.haveNV = true → s.ctl.hcrEl2.getLsbD 42 = true →
      exec (.mrsMdcrEl2 t) s = .next (s.takeTrap .el2 0x18 (0x330403 ||| (t.setWidth 25 <<< 5)))) ∧
    (s.ps.el = .el1 → ¬(s.el2Enabled = true ∧ s.cfg.haveNV = true ∧ s.ctl.hcrEl2.getLsbD 42 = true) →
      exec (.mrsMdcrEl2 t) s = .next s.takeUndefined) ∧
    (s.ps.el = .el2 → s.cfg.haveEL3 = true → s.inp.el3A32 = false → s.ctl.mdcrEl3.getLsbD 9 = true →
      exec (.mrsMdcrEl2 t) s = .next (s.takeTrap .el3 0x18 (0x330403 ||| (t.setWidth 25 <<< 5)))) ∧
    (s.ps.el = .el2 → ¬(s.cfg.haveEL3 = true ∧ s.inp.el3A32 = false ∧ s.ctl.mdcrEl3.getLsbD 9 = true) →
      exec (.mrsMdcrEl2 t) s = .next (s.setX t s.mdcrRead).advance) ∧
    (s.ps.el = .el3 → exec (.mrsMdcrEl2 t) s = .next (s.setX t s.mdcrRead).advance)

/-- MSR MDCR_EL2, <Xt>: the checks of R80 with ISS 0x330402 | (t << 5); where the access is performed MDCR_EL2 takes
WriteValue(MDCR_EL2, Xt) and the pc moves on by 4, and nothing else changes: the other control registers and every
other register keep their values. With the worked example of the rule. (R81) -/
def Obligations.MdcrWriteByLevel : Prop :=
  ∀ (s : State) (t : XReg),
    (s.ps.el = .el0 → exec (.msrMdcrEl2 t) s = .next s.takeUndefined) ∧
    (s.ps.el = .el1 → s.el2Enabled = true → s.cfg.haveNV = true → s.ctl.hcrEl2.getLsbD 42 = true →
      exec (.msrMdcrEl2 t) s = .next (s.takeTrap .el2 0x18 (0x330402 ||| (t.setWidth 25 <<< 5)))) ∧
    (s.ps.el = .el1 → ¬(s.el2Enabled = true ∧ s.cfg.haveNV = true ∧ s.ctl.hcrEl2.getLsbD 42 = true) →
      exec (.msrMdcrEl2 t) s = .next s.takeUndefined) ∧
    (s.ps.el = .el2 → s.cfg.haveEL3 = true → s.inp.el3A32 = false → s.ctl.mdcrEl3.getLsbD 9 = true →
      exec (.msrMdcrEl2 t) s = .next (s.takeTrap .el3 0x18 (0x330402 ||| (t.setWidth 25 <<< 5)))) ∧
    (s.ps.el = .el2 → ¬(s.cfg.haveEL3 = true ∧ s.inp.el3A32 = false ∧ s.ctl.mdcrEl3.getLsbD 9 = true) →
      exec (.msrMdcrEl2 t) s = .next
        ({ s with ctl := { s.ctl with mdcrEl2 := mdcrMerge s.cfg s.ctl.mdcrEl2 (s.getX t) } } : State).advance) ∧
    (s.ps.el = .el3 → exec (.msrMdcrEl2 t) s = .next
      ({ s with ctl := { s.ctl with mdcrEl2 := mdcrMerge s.cfg s.ctl.mdcrEl2 (s.getX t) } } : State).advance) ∧
    (s.ps.el = .el2 → s.cfg.haveEL2 = true → s.cfg.haveEL3 = true → s.ctl.mdcrEl3.getLsbD 9 = false →
      s.cfg.havePMUv3 = true → s.cfg.havePMUv3p1 = true → s.cfg.havePMUv3p5 = true → s.cfg.haveFGT = true →
      s.cfg.haveTraceFilt = true → s.cfg.haveSPE = true → s.cfg.res0BitsStored = false → s.getX t =
        0xFFFFFFFFFFFFFFFF →
      ∃ u, exec (.msrMdcrEl2 t) s = .next u ∧ u.ctl.mdcrEl2 = 0x0C8A7FFF)

/-- MRC of HDCR, its condition passing: Undefined at EL0; at EL1 a trap to EL2 (EC 0x03) under HSTR_EL2.T1, a Hyp trap
under HSTR.T1, else Undefined; at EL2 a trap to EL3 under MDCR_EL3.TDA, else Rt takes ReadValue()[31:0] with bits
[16:12] zero; at EL3 Undefined while SCR.NS is 0, else the same read. Its condition failing and trap_failed_condition
false: a NOP. The model's reading: where HDCR.HLP is the RAZ/WI bit of R176, bit 26 reads as zero too
(notes/assumptions 43), and HSTR.T1 is HSTR_EL2.T1 (notes/assumptions 21), bit 1 (notes/assumptions 20). (R84, R176,
R38) -/
def Obligations.HdcrReadByLevel : Prop :=
  ∀ (s : State) (c : Cond) (t : RReg),
    (s.condPassed c = true → s.ps.el = .el0 → exec (.mrcHdcr c t) s = .next s.takeUndefined) ∧
    (s.condPassed c = true → s.ps.el = .el1 → s.el2Enabled = true → s.elA32 .el2 = false → s.ctl.hstrEl2.getLsbD 1 =
      true →
      exec (.mrcHdcr c t) s = .next (s.takeTrap .el2 0x03 (s.issMcr ⟨15, 4, 1, 1, 1⟩ c t true))) ∧
    (s.condPassed c = true → s.ps.el = .el1 → s.el2Enabled = true → s.elA32 .el2 = true → s.ctl.hstrEl2.getLsbD 1 =
      true →
      exec (.mrcHdcr c t) s = .next (s.takeHyp (esrValue 0x03 true (s.issMcr ⟨15, 4, 1, 1, 1⟩ c t true)))) ∧
    (s.condPassed c = true → s.ps.el = .el1 → ¬(s.el2Enabled = true ∧ s.ctl.hstrEl2.getLsbD 1 = true) →
      exec (.mrcHdcr c t) s = .next s.takeUndefined) ∧
    (s.condPassed c = true → s.ps.el = .el2 → s.cfg.haveEL3 = true → s.inp.el3A32 = false →
      s.ctl.mdcrEl3.getLsbD 9 = true → exec (.mrcHdcr c t) s = .next (s.takeTrap .el3 0x03 (s.issMcr ⟨15, 4, 1, 1, 1⟩
        c t true))) ∧
    (s.condPassed c = true → s.ps.el = .el2 →
      ¬(s.cfg.haveEL3 = true ∧ s.inp.el3A32 = false ∧ s.ctl.mdcrEl3.getLsbD 9 = true) →
      exec (.mrcHdcr c t) s = .next (s.setR t (low32 s.mdcrRead &&& (if s.hlpRazwi then 0xFBFE0FFF else
        0xFFFE0FFF))).advance) ∧
    (s.condPassed c = true → s.ps.el = .el3 → s.nonSecure = false → exec (.mrcHdcr c t) s = .next s.takeUndefined) ∧
    (s.condPassed c = true → s.ps.el = .el3 → s.nonSecure = true → exec (.mrcHdcr c t) s = .next (s.setR t (low32
      s.mdcrRead &&& (if s.hlpRazwi then 0xFBFE0FFF else 0xFFFE0FFF))).advance) ∧
    (s.condPassed c = false → s.cfg.trapFailedCondition = false → exec (.mrcHdcr c t) s = .next s.advance)

/-- MCR of HDCR: the checks of the read; where it is performed and EL2 is implemented, MDCR_EL2 takes (old AND NOT
M32) OR (Rt AND M32) with M32 = IMPL_MASK AND 0xFFFE0FFF, so TPMS, E2PB and bits [63:32] keep their values, and
nothing else changes but the pc. The model's reading: where HDCR.HLP is the RAZ/WI bit of R176, bit 26 keeps its value
too (notes/assumptions 43), and HSTR.T1 is HSTR_EL2.T1 (notes/assumptions 21), bit 1 (notes/assumptions 20). (Without
EL2 the register is RES0: MdcrWithoutEl2.) (R85, R176, R38) -/
def Obligations.HdcrWriteByLevel : Prop :=
  ∀ (s : State) (c : Cond) (t : RReg),
    (s.condPassed c = true → s.ps.el = .el0 → exec (.mcrHdcr c t) s = .next s.takeUndefined) ∧
    (s.condPassed c = true → s.ps.el = .el1 → s.el2Enabled = true → s.elA32 .el2 = false → s.ctl.hstrEl2.getLsbD 1 =
      true →
      exec (.mcrHdcr c t) s = .next (s.takeTrap .el2 0x03 (s.issMcr ⟨15, 4, 1, 1, 1⟩ c t false))) ∧
    (s.condPassed c = true → s.ps.el = .el1 → s.el2Enabled = true → s.elA32 .el2 = true → s.ctl.hstrEl2.getLsbD 1 =
      true →
      exec (.mcrHdcr c t) s = .next (s.takeHyp (esrValue 0x03 true (s.issMcr ⟨15, 4, 1, 1, 1⟩ c t false)))) ∧
    (s.condPassed c = true → s.ps.el = .el1 → ¬(s.el2Enabled = true ∧ s.ctl.hstrEl2.getLsbD 1 = true) →
      exec (.mcrHdcr c t) s = .next s.takeUndefined) ∧
    (s.condPassed c = true → s.ps.el = .el2 → s.cfg.haveEL3 = true → s.inp.el3A32 = false →
      s.ctl.mdcrEl3.getLsbD 9 = true → exec (.mcrHdcr c t) s = .next (s.takeTrap .el3 0x03 (s.issMcr ⟨15, 4, 1, 1, 1⟩
        c t false))) ∧
    (s.condPassed c = true → s.ps.el = .el2 →
      ¬(s.cfg.haveEL3 = true ∧ s.inp.el3A32 = false ∧ s.ctl.mdcrEl3.getLsbD 9 = true) → s.cfg.haveEL2 = true →
      exec (.mcrHdcr c t) s = .next ({ s with ctl := { s.ctl with
        mdcrEl2 :=
          (s.ctl.mdcrEl2 &&& ~~~(implMask s.cfg &&& (if s.hlpRazwi then 0xFBFE0FFF else 0xFFFE0FFF)))
            ||| (zext64 (s.getR .r15 t) &&& (implMask s.cfg &&& (if s.hlpRazwi then 0xFBFE0FFF else 0xFFFE0FFF)))
              } } :
              State).advance) ∧
    (s.condPassed c = true → s.ps.el = .el3 → s.nonSecure = false → exec (.mcrHdcr c t) s = .next s.takeUndefined) ∧
    (s.condPassed c = true → s.ps.el = .el3 → s.nonSecure = true → s.cfg.haveEL2 = true → exec (.mcrHdcr c t) s =
      .next ({ s with ctl := { s.ctl with
        mdcrEl2 :=
          (s.ctl.mdcrEl2 &&& ~~~(implMask s.cfg &&& (if s.hlpRazwi then 0xFBFE0FFF else 0xFFFE0FFF)))
            ||| (zext64 (s.getR .r15 t) &&& (implMask s.cfg &&& (if s.hlpRazwi then 0xFBFE0FFF else 0xFFFE0FFF)))
              } } :
              State).advance) ∧
    (s.condPassed c = false → s.cfg.trapFailedCondition = false → exec (.mcrHdcr c t) s = .next s.advance)

/-- A write that is performed stores Xt AND IMPL_MASK, or all of Xt where the implementation stores RES0 bits. Every
implemented field, as the rules read it, then holds exactly the bits written (E2PB = 0b01 and any HPMN included), and
RES0 bits have no effect: what the rules read is the same with them cleared. (R82) -/
def Obligations.MdcrWriteValue : Prop :=
  ∀ (s : State) (t : XReg), s.cfg.haveEL2 = true → s.mdcrOpen = true →
    ∃ u, exec (.msrMdcrEl2 t) s = .next u ∧
      u.ctl.mdcrEl2 = (if s.cfg.res0BitsStored then s.getX t else s.getX t &&& implMask s.cfg) ∧
      (∀ j, (implMask s.cfg).getLsbD j = true → u.mdcr.getLsbD j = (s.getX t).getLsbD j) ∧
      (s.cfg.haveSPE = true → u.e2pb = (s.getX t).extractLsb' 12 2) ∧
      (s.cfg.havePMUv3 = true → u.hpmn = ((s.getX t).extractLsb' 0 5).toNat) ∧
      ∀ v : Word, (u.withMdcr v).mdcr = (u.withMdcr (v &&& implMask s.cfg)).mdcr

/-- A read that is performed gives Xt the stored register, except that while PMUv3 is implemented, PMCR_N is not 0 and
HPMN is 0 or larger than PMCR_N, bits [4:0] are some five bits; the stored register does not change. In particular the
stored TDE, TDRA, TDOSA and TDA are returned whatever HCR_EL2.TGE makes of their Effective values. (R83) -/
def Obligations.MdcrReadValue : Prop :=
  ∀ (s : State) (t : XReg), s.cfg.haveEL2 = true → s.mdcrOpen = true → t ≠ 31 →
    ∃ u, exec (.mrsMdcrEl2 t) s = .next u ∧ u.ctl = s.ctl ∧
      (∃ h : BitVec 5, u.getX t = (s.ctl.mdcrEl2 &&& ~~~0x1F#64) ||| h.setWidth 64) ∧
      (¬(s.cfg.havePMUv3 = true ∧ s.pmcrN ≠ 0 ∧
          ((s.ctl.mdcrEl2.extractLsb' 0 5).toNat = 0 ∨ s.pmcrN < (s.ctl.mdcrEl2.extractLsb' 0 5).toNat)) →
        u.getX t = s.ctl.mdcrEl2)

/-- Where EL2 is not implemented: at EL3 a read of MDCR_EL2 gives 0 and a write is ignored; at EL1 and EL0 both are
Undefined; at EL3 with SCR.NS = 1 MRC and MCR of HDCR do the same; EL2Enabled() is false; the partition point is
PMCR_N for every use; and no value in the register changes which counters are enabled, allowed to count, how wide they
are or their MT bit. HDCR at EL3 follows from R33, R84 and R85; that MT has no term of EL2 here is the model's reading
(notes/assumptions 38). (R86, R33, R84, R85, R174) -/
def Obligations.MdcrWithoutEl2 : Prop :=
  ∀ (s : State) (t : XReg) (c : Cond) (r : RReg), s.cfg.haveEL2 = false →
    (s.ps.el = .el3 → exec (.mrsMdcrEl2 t) s = .next (s.setX t 0).advance ∧ exec (.msrMdcrEl2 t) s = .next s.advance)
      ∧
    (s.ps.el = .el0 ∨ s.ps.el = .el1 →
      exec (.mrsMdcrEl2 t) s = .next s.takeUndefined ∧ exec (.msrMdcrEl2 t) s = .next s.takeUndefined) ∧
    (s.ps.el = .el3 → s.nonSecure = true → s.condPassed c = true →
      exec (.mrcHdcr c r) s = .next (s.setR r 0).advance ∧ exec (.mcrHdcr c r) s = .next s.advance) ∧
    s.el2Enabled = false ∧
    (∀ (use : HpmnUse) (n : Nat), s.partHpmn use n = s.pmcrN) ∧
    (∀ (v : Word) (n : Nat), n < s.pmcrN →
      (s.withMdcr v).counterEnabled n = s.counterEnabled n ∧ (s.withMdcr v).counterAllowed n = s.counterAllowed n ∧
      (s.withMdcr v).cycleAllowed = s.cycleAllowed ∧ (s.withMdcr v).overflowWidth n = s.overflowWidth n ∧
      (s.withMdcr v).effMt n = s.effMt n)

/-- Bit j of the mask is set exactly where a field at j exists: 28 (MTPMU without EL3), 27 (FGT), 26 and 23 (PMUv3p5),
19 (trace filter), 17 (PMUv3p1), 14 to 12 (SPE), 11 to 8 always, 7 to 0 (PMUv3). The three values of the rule. A bit
outside it is RES0: a write leaves it 0 where RES0 bits are not stored. (R12) -/
def Obligations.ImplementedMask : Prop :=
  (∀ (c : Config) (j : Nat), (implMask c).getLsbD j = true ↔
    (j = 28 ∧ c.haveMTPMU = true ∧ c.haveEL3 = false) ∨ (j = 27 ∧ c.haveFGT = true) ∨
    ((j = 26 ∨ j = 23) ∧ c.havePMUv3p5 = true) ∨ (j = 19 ∧ c.haveTraceFilt = true) ∨ (j = 17 ∧ c.havePMUv3p1 = true) ∨
    (12 ≤ j ∧ j ≤ 14 ∧ c.haveSPE = true) ∨ (8 ≤ j ∧ j ≤ 11) ∨ (j ≤ 7 ∧ c.havePMUv3 = true)) ∧
  (∀ c : Config, c.haveMTPMU = true → c.haveFGT = true → c.havePMUv3p5 = true → c.haveTraceFilt = true →
    c.havePMUv3p1 = true → c.haveSPE = true → c.havePMUv3 = true →
    implMask c = if c.haveEL3 then 0x0C8A7FFF else 0x1C8A7FFF) ∧
  (∀ c : Config, c.haveMTPMU = false → c.haveFGT = false → c.havePMUv3p5 = false → c.haveTraceFilt = false →
    c.havePMUv3p1 = false → c.haveSPE = false → c.havePMUv3 = false → implMask c = 0xF00) ∧
  (∀ (c : Config) (old v : Word) (j : Nat), c.haveEL2 = true → c.res0BitsStored = false →
    (implMask c).getLsbD j = false → (mdcrMerge c old v).getLsbD j = false)

/-- TDE is effectively 1 when the stored bit is 1 or EL2 is enabled and HCR_EL2.TGE is 1; TDRA, TDOSA and TDA are
effectively 1 when their stored bit is 1 or TDE effectively is. A direct read returns the four stored bits. (R30, R31)
-/
def Obligations.EffectiveDebugFields : Prop :=
  ∀ s : State,
    (s.effTde = true ↔ s.ctl.mdcrEl2.getLsbD 8 = true ∨ (s.el2Enabled = true ∧ s.ctl.hcrEl2.getLsbD 27 = true)) ∧
    (s.effTdra = true ↔ s.ctl.mdcrEl2.getLsbD 11 = true ∨ s.effTde = true) ∧
    (s.effTdosa = true ↔ s.ctl.mdcrEl2.getLsbD 10 = true ∨ s.effTde = true) ∧
    (s.effTda = true ↔ s.ctl.mdcrEl2.getLsbD 9 = true ∨ s.effTde = true) ∧
    (s.cfg.haveEL2 = true → ∀ (t : XReg) (u : State) (j : Nat), t ≠ 31 → s.mdcrOpen = true →
      exec (.mrsMdcrEl2 t) s = .next u → 8 ≤ j → j ≤ 11 → (u.getX t).getLsbD j = s.ctl.mdcrEl2.getLsbD j)

/-- MDCCSR_EL0, MDCCINT_EL1, OSDTRRX_EL1, OSDTRTX_EL1 and DBGDTR_EL0, DBGDTRRX_EL0, DBGDTRTX_EL0. At a level and under
controls that let the access through (State.dccUserOpen, dccOpen, dtrOpen: R110 to R116 written out level by level)
the MRS gives Xt the register and the MSR gives the register Xt, and nothing else changes but the pc and what the
transfer registers bring with them (free values, notes/assumptions 15). The values read and stored are the model's
choice, storage (notes/assumptions 13). (R110, R111, R112, R113, R114, R115, R116) -/
def Obligations.DccRegistersComplete : Prop :=
  ∀ (s : State) (t : XReg),
    (s.dccUserOpen = true →
       exec (.mrsMdccsrEl0 t) s = .next ((s.setX t s.dbg.mdccsrEl0).advance)) ∧
    (s.dccOpen = true →
       exec (.mrsMdccintEl1 t) s = .next ((s.setX t s.dbg.mdccintEl1).advance) ∧
       exec (.msrMdccintEl1 t) s = .next (({ s with dbg := { s.dbg with mdccintEl1 := (s.getX t) } } :
         State).advance) ∧
       exec (.mrsOsdtrrxEl1 t) s = .next ((s.setX t s.dbg.osdtrrxEl1).advance) ∧
       exec (.msrOsdtrrxEl1 t) s = .next (({ s with dbg := { s.dbg with osdtrrxEl1 := (s.getX t) } } :
         State).advance) ∧
       exec (.mrsOsdtrtxEl1 t) s = .next ((s.setX t s.dbg.osdtrtxEl1).advance) ∧
       exec (.msrOsdtrtxEl1 t) s = .next (({ s with dbg := { s.dbg with osdtrtxEl1 := (s.getX t) } } :
         State).advance)) ∧
    (s.dtrOpen = true →
       exec (.mrsDbgdtrEl0 t) s = .next (((s.dtrRxTaken).setX t (s.freeDebug 0)).advance) ∧
       exec (.msrDbgdtrEl0 t) s = .next ((s.dtrWrite (s.getX t)).advance) ∧
       exec (.mrsDbgdtrrxEl0 t) s = .next (((s.dtrRxTaken).setX t (zext64 s.dbg.dtrRx)).advance) ∧
       exec (.msrDbgdtrtxEl0 t) s = .next ((s.dtrTxWrite (low32 (s.getX t))).advance))

/-- MDSCR_EL1, OSECCR_EL1, the breakpoint and watchpoint registers, the CLAIM registers, DBGAUTHSTATUS_EL1, MDRAR_EL1,
OSLAR_EL1, OSLSR_EL1, OSDLR_EL1 and DBGPRCR_EL1. Under State.tdaOpen, breakOpen, mdrarOpen, tdosaOpen, osdlrOpen (R117
to R130 written out level by level; for MDSCR_EL1 with no nested-virtualization redirection) the MRS gives Xt the
register and the MSR gives the register Xt. What a write of OSLAR_EL1 or of a CLAIM register sets is free
(notes/assumptions 16 and 17). The values read and stored are the model's choice, storage (notes/assumptions 13); so
are the number of breakpoints and watchpoints (notes/assumptions 32) and the positions of the fine-grained bits and of
EDSCR.TDA (notes/assumptions 20). (41_debug_traps.md, R117, R119, R120, R121, R122, R125, R126, R127, R128, R129,
R130) -/
def Obligations.DebugRegistersComplete : Prop :=
  ∀ (s : State) (t : XReg) (n : BitVec 4),
    (s.tdaOpen true 4 = true → s.redirectAny = false →
       exec (.mrsMdscrEl1 t) s = .next ((s.setX t s.dbg.mdscrEl1).advance)) ∧
    (s.tdaOpen false 4 = true → s.redirectAny = false →
       exec (.msrMdscrEl1 t) s = .next (({ s with dbg := { s.dbg with mdscrEl1 := (s.getX t) } } : State).advance)) ∧
    (s.tdaOpen true 10 = true →
       exec (.mrsOseccrEl1 t) s = .next ((s.setX t s.dbg.oseccrEl1).advance)) ∧
    (s.tdaOpen false 10 = true →
       exec (.msrOseccrEl1 t) s = .next (({ s with dbg := { s.dbg with oseccrEl1 := (s.getX t) } } : State).advance))
         ∧
    (s.breakOpen true 1 n s.cfg.breakpoints = true →
       exec (.mrsDbgbvrEl1 n t) s = .next ((s.setX t (vget s.dbg.bvr n.toNat)).advance)) ∧
    (s.breakOpen false 1 n s.cfg.breakpoints = true →
       exec (.msrDbgbvrEl1 n t) s = .next (({ s with dbg := { s.dbg with bvr := vset s.dbg.bvr n.toNat (s.getX t) } }
         : State).advance)) ∧
    (s.breakOpen true 0 n s.cfg.breakpoints = true →
       exec (.mrsDbgbcrEl1 n t) s = .next ((s.setX t (vget s.dbg.bcr n.toNat)).advance)) ∧
    (s.breakOpen false 0 n s.cfg.breakpoints = true →
       exec (.msrDbgbcrEl1 n t) s = .next (({ s with dbg := { s.dbg with bcr := vset s.dbg.bcr n.toNat (s.getX t) } }
         : State).advance)) ∧
    (s.breakOpen true 3 n s.cfg.watchpoints = true →
       exec (.mrsDbgwvrEl1 n t) s = .next ((s.setX t (vget s.dbg.wvr n.toNat)).advance)) ∧
    (s.breakOpen false 3 n s.cfg.watchpoints = true →
       exec (.msrDbgwvrEl1 n t) s = .next (({ s with dbg := { s.dbg with wvr := vset s.dbg.wvr n.toNat (s.getX t) } }
         : State).advance)) ∧
    (s.breakOpen true 2 n s.cfg.watchpoints = true →
       exec (.mrsDbgwcrEl1 n t) s = .next ((s.setX t (vget s.dbg.wcr n.toNat)).advance)) ∧
    (s.breakOpen false 2 n s.cfg.watchpoints = true →
       exec (.msrDbgwcrEl1 n t) s = .next (({ s with dbg := { s.dbg with wcr := vset s.dbg.wcr n.toNat (s.getX t) } }
         : State).advance)) ∧
    (s.tdaOpen true 5 = true →
       exec (.mrsDbgclaimsetEl1 t) s = .next ((s.setX t s.dbg.claimSet).advance) ∧
       exec (.mrsDbgclaimclrEl1 t) s = .next ((s.setX t s.dbg.claimClr).advance)) ∧
    (s.tdaOpen false 5 = true →
       exec (.msrDbgclaimsetEl1 t) s = .next ((s.claimWrite).advance) ∧
       exec (.msrDbgclaimclrEl1 t) s = .next ((s.claimWrite).advance)) ∧
    (s.tdaOpen true 6 = true →
       exec (.mrsDbgauthstatusEl1 t) s = .next ((s.setX t s.dbg.dbgauthstatus).advance)) ∧
    (s.mdrarOpen = true →
       exec (.mrsMdrarEl1 t) s = .next ((s.setX t s.dbg.mdrar).advance)) ∧
    (s.tdosaOpen false 8 = true →
       exec (.msrOslarEl1 t) s = .next ((s.osLockWrite).advance)) ∧
    (s.tdosaOpen true 9 = true →
       exec (.mrsOslsrEl1 t) s = .next ((s.setX t s.dbg.oslsr).advance)) ∧
    (s.osdlrOpen true = true →
       exec (.mrsOsdlrEl1 t) s = .next ((s.setX t s.dbg.osdlr).advance)) ∧
    (s.osdlrOpen false = true →
       exec (.msrOsdlrEl1 t) s = .next (({ s with dbg := { s.dbg with osdlr := (s.getX t) } } : State).advance)) ∧
    (s.tdosaOpen true 7 = true →
       exec (.mrsDbgprcrEl1 t) s = .next ((s.setX t s.dbg.dbgprcr).advance)) ∧
    (s.tdosaOpen false 7 = true →
       exec (.msrDbgprcrEl1 t) s = .next (({ s with dbg := { s.dbg with dbgprcr := (s.getX t) } } : State).advance))

/-- PMCR_EL0, the set and clear registers, PMSWINC_EL0, PMSELR_EL0, PMCEID0_EL0, PMCEID1_EL0, PMCCNTR_EL0,
PMCCFILTR_EL0, PMUSERENR_EL0, PMINTENSET_EL1, PMINTENCLR_EL1 and PMMIR_EL1. Under State.pmuOpen (the chain of R169
written out level by level, with each register's EL0 enable and fine-grained bit) the MRS gives Xt the value and the
MSR acts: a set register gains, a clear register loses the visible bits of Xt, the others are written. Which counters
PMSWINC_EL0 increments is narrowed by a free value (notes/assumptions 18). The values read and stored are the model's
choice, storage (notes/assumptions 13); so are which bits of PMCR_EL0 are stored (notes/assumptions 19) and the
positions of the fine-grained bits (notes/assumptions 20). (R152, R153, R154, R155, R156, R157, R158, R159, R162,
R163, R164, R169) -/
def Obligations.PmuRegistersComplete : Prop :=
  ∀ (s : State) (t : XReg),
    (s.pmuOpen s.cfg.havePMUv3 gateEN none true = true →
       exec (.mrsPmcrEl0 t) s = .next ((s.setX t s.pmcrRead).advance)) ∧
    (s.pmuOpen s.cfg.havePMUv3 gateEN (some (false, 21)) true = true →
       exec (.msrPmcrEl0 t) s = .next ((s.pmcrWrite (s.getX t)).advance)) ∧
    (s.pmuOpen s.cfg.havePMUv3 gateEN (some (true, 16)) false = true →
       exec (.mrsPmcntensetEl0 t) s = .next ((s.setX t (s.pmu.pmcnten &&& s.visibleMask)).advance) ∧
       exec (.mrsPmcntenclrEl0 t) s = .next ((s.setX t (s.pmu.pmcnten &&& s.visibleMask)).advance)) ∧
    (s.pmuOpen s.cfg.havePMUv3 gateEN (some (false, 16)) false = true →
       exec (.msrPmcntensetEl0 t) s = .next
         (({ s with pmu := { s.pmu with pmcnten := s.maskSet s.pmu.pmcnten (s.getX t) } } : State).advance) ∧
       exec (.msrPmcntenclrEl0 t) s = .next
         (({ s with pmu := { s.pmu with pmcnten := s.maskClear s.pmu.pmcnten (s.getX t) } } : State).advance)) ∧
    (s.pmuOpen s.cfg.havePMUv3 gateEN (some (true, 18)) false = true →
       exec (.mrsPmovsclrEl0 t) s = .next ((s.setX t (s.pmu.pmovs &&& s.visibleMask)).advance) ∧
       exec (.mrsPmovssetEl0 t) s = .next ((s.setX t (s.pmu.pmovs &&& s.visibleMask)).advance)) ∧
    (s.pmuOpen s.cfg.havePMUv3 gateEN (some (false, 18)) false = true →
       exec (.msrPmovsclrEl0 t) s = .next
         (({ s with pmu := { s.pmu with pmovs := s.maskClear s.pmu.pmovs (s.getX t) } } : State).advance) ∧
       exec (.msrPmovssetEl0 t) s = .next
         (({ s with pmu := { s.pmu with pmovs := s.maskSet s.pmu.pmovs (s.getX t) } } : State).advance)) ∧
    (s.pmuOpen s.cfg.havePMUv3 gateSW (some (false, 20)) false = true →
       exec (.msrPmswincEl0 t) s = .next ((s.softwareIncrement (s.getX t)).advance)) ∧
    (s.pmuOpen s.cfg.havePMUv3 gateER (some (true, 19)) false = true →
       exec (.mrsPmselrEl0 t) s = .next ((s.setX t s.pmu.pmselr).advance)) ∧
    (s.pmuOpen s.cfg.havePMUv3 gateER (some (false, 19)) false = true →
       exec (.msrPmselrEl0 t) s = .next (({ s with pmu := { s.pmu with pmselr := (s.getX t) } } : State).advance)) ∧
    (s.pmuOpen s.cfg.havePMUv3 gateEN none false = true →
       exec (.mrsPmceid0El0 t) s = .next ((s.setX t s.pmu.pmceid0).advance) ∧
       exec (.mrsPmceid1El0 t) s = .next ((s.setX t s.pmu.pmceid1).advance)) ∧
    (s.pmuOpen s.cfg.havePMUv3 gateCR (some (true, 15)) false = true →
       exec (.mrsPmccntrEl0 t) s = .next ((s.setX t s.pmu.pmccntr).advance)) ∧
    (s.pmuOpen s.cfg.havePMUv3 gateEN (some (false, 15)) false = true →
       exec (.msrPmccntrEl0 t) s = .next (({ s with pmu := { s.pmu with pmccntr := (s.getX t) } } : State).advance)) ∧
    (s.pmuOpen s.cfg.havePMUv3 .open (some (true, 57)) false = true →
       exec (.mrsPmuserenrEl0 t) s = .next ((s.setX t s.pmu.pmuserenr).advance)) ∧
    (s.pmuOpen s.cfg.havePMUv3 .undefinedAtEl0 (some (false, 57)) false = true →
       exec (.msrPmuserenrEl0 t) s = .next (({ s with pmu := { s.pmu with pmuserenr := (s.getX t) } } :
         State).advance)) ∧
    (s.pmuOpen s.cfg.havePMUv3 .undefinedAtEl0 (some (true, 17)) false = true →
       exec (.mrsPmintensetEl1 t) s = .next ((s.setX t (s.pmu.pminten &&& s.visibleMask)).advance) ∧
       exec (.mrsPmintenclrEl1 t) s = .next ((s.setX t (s.pmu.pminten &&& s.visibleMask)).advance)) ∧
    (s.pmuOpen s.cfg.havePMUv3 .undefinedAtEl0 (some (false, 17)) false = true →
       exec (.msrPmintensetEl1 t) s = .next
         (({ s with pmu := { s.pmu with pminten := s.maskSet s.pmu.pminten (s.getX t) } } : State).advance) ∧
       exec (.msrPmintenclrEl1 t) s = .next
         (({ s with pmu := { s.pmu with pminten := s.maskClear s.pmu.pminten (s.getX t) } } : State).advance)) ∧
    (s.pmuOpen (s.cfg.havePMUv3 && s.cfg.havePMUv3p4) .undefinedAtEl0 (some (true, 22)) false = true →
       exec (.mrsPmmirEl1 t) s = .next ((s.setX t s.pmu.pmmir).advance)) ∧
    (s.pmuOpen s.cfg.havePMUv3 gateEN (some (true, 14)) false = true →
       exec (.mrsPmccfiltrEl0 t) s = .next ((s.setX t s.pmu.pmccfiltr).advance)) ∧
    (s.pmuOpen s.cfg.havePMUv3 gateEN (some (false, 14)) false = true →
       exec (.msrPmccfiltrEl0 t) s = .next (({ s with pmu := { s.pmu with pmccfiltr := (s.getX t) } } :
         State).advance))

/-- PMEVCNTR<n>_EL0, PMEVTYPER<n>_EL0, PMXEVCNTR_EL0 and PMXEVTYPER_EL0 (n = PMSELR_EL0.SEL). Under State.pmuOpen and
for a counter that is implemented and accessible at the level (State.counterOpen, R171) the access reads or writes
that counter or its type register; PMXEVTYPER_EL0 with SEL = 31 reads or writes PMCCFILTR_EL0. A counter holds 64 bits
of the value with ARMv8.5-PMU, else 32. The values read and stored are the model's choice, storage (notes/assumptions
13), and so are the positions of the fine-grained bits and of PMSELR_EL0.SEL (notes/assumptions 20). (R160, R161,
R165, R166, R169, R171) -/
def Obligations.CounterRegistersComplete : Prop :=
  ∀ (s : State) (t : XReg) (n : BitVec 5),
    (s.pmuOpen s.cfg.havePMUv3 gateEN (some (true, 13)) false = true → s.counterOpen s.pmselrSel = true →
       exec (.mrsPmxevtyperEl0 t) s = .next ((s.setX t (s.typeRead s.pmselrSel)).advance)) ∧
    (s.pmselrSel = 31 → s.pmuOpen s.cfg.havePMUv3 gateEN (some (true, 13)) false = true →
       exec (.mrsPmxevtyperEl0 t) s = .next ((s.setX t (s.typeRead 31)).advance)) ∧
    (s.pmuOpen s.cfg.havePMUv3 gateEN (some (false, 13)) false = true → s.counterOpen s.pmselrSel = true →
       exec (.msrPmxevtyperEl0 t) s = .next ((s.typeWrite s.pmselrSel (s.getX t)).advance)) ∧
    (s.pmselrSel = 31 → s.pmuOpen s.cfg.havePMUv3 gateEN (some (false, 13)) false = true →
       exec (.msrPmxevtyperEl0 t) s = .next ((s.typeWrite 31 (s.getX t)).advance)) ∧
    (s.pmuOpen s.cfg.havePMUv3 gateER (some (true, 12)) false = true → s.counterOpen s.pmselrSel = true →
       exec (.mrsPmxevcntrEl0 t) s = .next ((s.setX t (vget s.pmu.evcntr s.pmselrSel)).advance)) ∧
    (s.pmuOpen s.cfg.havePMUv3 gateEN (some (false, 12)) false = true → s.counterOpen s.pmselrSel = true →
       exec (.msrPmxevcntrEl0 t) s = .next ((s.counterWrite s.pmselrSel (s.getX t)).advance)) ∧
    (s.pmuOpen s.cfg.havePMUv3 gateER (some (true, 12)) false = true → s.counterOpen n.toNat = true →
       exec (.mrsPmevcntrEl0 n t) s = .next ((s.setX t (vget s.pmu.evcntr n.toNat)).advance)) ∧
    (s.pmuOpen s.cfg.havePMUv3 gateEN (some (false, 12)) false = true → s.counterOpen n.toNat = true →
       exec (.msrPmevcntrEl0 n t) s = .next ((s.counterWrite n.toNat (s.getX t)).advance)) ∧
    (s.pmuOpen s.cfg.havePMUv3 gateEN (some (true, 13)) false = true → s.counterOpen n.toNat = true →
       exec (.mrsPmevtyperEl0 n t) s = .next ((s.setX t (vget s.pmu.evtyper n.toNat)).advance)) ∧
    (s.pmuOpen s.cfg.havePMUv3 gateEN (some (false, 13)) false = true → s.counterOpen n.toNat = true →
       exec (.msrPmevtyperEl0 n t) s = .next
         (({ s with pmu := { s.pmu with evtyper := vset s.pmu.evtyper n.toNat (s.getX t) } } : State).advance))

/-- The seven profiling control registers, the three Profiling Buffer registers, PMBIDR_EL1 and TRFCR_EL1. Under
State.speOpen and State.trfcrOpen (R201, R204, R208 written out level by level), with no nested-virtualization
redirection, the MRS gives Xt the register and the MSR gives the register Xt; at EL2 with HCR_EL2.E2H the names
PMSCR_EL1 and TRFCR_EL1 reach the EL2 registers. The values read and stored are the model's choice, storage
(notes/assumptions 13); so are the positions of the fine-grained bits (notes/assumptions 20) and the RES0 bits of
PMSCR_EL2 (notes/assumptions 44). (R201, R204, R207, R208, R210, R211, R212, R213, R214, R215, R216, 43_spe_trace.md)
-/
def Obligations.ProfilingRegistersComplete : Prop :=
  ∀ (s : State) (t : XReg),
    (s.speOpen s.tpms true 26 = true → s.redirectAll = false →
       exec (.mrsPmscrEl1 t) s = .next ((s.setX t s.pmscrRead).advance)) ∧
    (s.speOpen s.tpms false 26 = true → s.redirectAll = false →
       exec (.msrPmscrEl1 t) s = .next ((s.pmscrWrite (s.getX t)).advance)) ∧
    (s.speOpen s.tpms true 29 = true → s.redirectAny = false →
       exec (.mrsPmsicrEl1 t) s = .next ((s.setX t s.spe.pmsicr).advance)) ∧
    (s.speOpen s.tpms false 29 = true → s.redirectAny = false →
       exec (.msrPmsicrEl1 t) s = .next (({ s with spe := { s.spe with pmsicr := (s.getX t) } } : State).advance)) ∧
    (s.speOpen s.tpms true 31 = true → s.redirectAny = false →
       exec (.mrsPmsirrEl1 t) s = .next ((s.setX t s.spe.pmsirr).advance)) ∧
    (s.speOpen s.tpms false 31 = true → s.redirectAny = false →
       exec (.msrPmsirrEl1 t) s = .next (({ s with spe := { s.spe with pmsirr := (s.getX t) } } : State).advance)) ∧
    (s.speOpen s.tpms true 28 = true →
       exec (.mrsPmsfcrEl1 t) s = .next ((s.setX t s.spe.pmsfcr).advance)) ∧
    (s.speOpen s.tpms false 28 = true →
       exec (.msrPmsfcrEl1 t) s = .next (({ s with spe := { s.spe with pmsfcr := (s.getX t) } } : State).advance)) ∧
    (s.speOpen s.tpms true 27 = true → s.redirectAny = false →
       exec (.mrsPmsevfrEl1 t) s = .next ((s.setX t s.spe.pmsevfr).advance)) ∧
    (s.speOpen s.tpms false 27 = true → s.redirectAny = false →
       exec (.msrPmsevfrEl1 t) s = .next (({ s with spe := { s.spe with pmsevfr := (s.getX t) } } : State).advance)) ∧
    (s.speOpen s.tpms true 32 = true → s.redirectAny = false →
       exec (.mrsPmslatfrEl1 t) s = .next ((s.setX t s.spe.pmslatfr).advance)) ∧
    (s.speOpen s.tpms false 32 = true → s.redirectAny = false →
       exec (.msrPmslatfrEl1 t) s = .next (({ s with spe := { s.spe with pmslatfr := (s.getX t) } } :
         State).advance)) ∧
    (s.speOpen s.tpms true 30 = true →
       exec (.mrsPmsidrEl1 t) s = .next ((s.setX t s.spe.pmsidr).advance)) ∧
    (s.speOpen (!s.e2pb.getLsbD 0) true 23 = true → s.redirectAny = false →
       exec (.mrsPmblimitrEl1 t) s = .next ((s.setX t s.spe.pmblimitr).advance)) ∧
    (s.speOpen (!s.e2pb.getLsbD 0) false 23 = true → s.redirectAny = false →
       exec (.msrPmblimitrEl1 t) s = .next (({ s with spe := { s.spe with pmblimitr := (s.getX t) } } :
         State).advance)) ∧
    (s.speOpen (!s.e2pb.getLsbD 0) true 24 = true → s.redirectAny = false →
       exec (.mrsPmbptrEl1 t) s = .next ((s.setX t s.spe.pmbptr).advance)) ∧
    (s.speOpen (!s.e2pb.getLsbD 0) false 24 = true → s.redirectAny = false →
       exec (.msrPmbptrEl1 t) s = .next (({ s with spe := { s.spe with pmbptr := (s.getX t) } } : State).advance)) ∧
    (s.speOpen (!s.e2pb.getLsbD 0) true 25 = true → s.redirectAny = false →
       exec (.mrsPmbsrEl1 t) s = .next ((s.setX t s.spe.pmbsr).advance)) ∧
    (s.speOpen (!s.e2pb.getLsbD 0) false 25 = true → s.redirectAny = false →
       exec (.msrPmbsrEl1 t) s = .next (({ s with spe := { s.spe with pmbsr := (s.getX t) } } : State).advance)) ∧
    (s.cfg.haveSPE = true → s.ps.el ≠ .el0 →
       exec (.mrsPmbidrEl1 t) s = .next ((s.setX t s.pmbidrRead).advance)) ∧
    (s.trfcrOpen true = true → s.redirectAll = false →
       exec (.mrsTrfcrEl1 t) s = .next ((s.setX t s.trfcrRead).advance)) ∧
    (s.trfcrOpen false = true → s.redirectAll = false →
       exec (.msrTrfcrEl1 t) s = .next ((s.trfcrWrite (s.getX t)).advance))

/-- Under a condition that passes and State.tda32Open, tdosa32Open, trfcr32Open (R132, R135, R209 written out level by
level) the MRC gives Rt the register and the MCR gives the register Rt; an AArch32 name of an AArch64 register reads
and writes the low half of it, and DBGBXVR<n> the high half of the breakpoint value (notes/assumptions 14). A
breakpoint or watchpoint number is one that is implemented (notes/assumptions 32). The values read and stored are the
model's choice, storage (notes/assumptions 13); so are what R15 gives and discards (notes/assumptions 10) and the free
OS Lock and CLAIM values (notes/assumptions 16 and 17). (R131, R132, R135, R209) -/
def Obligations.DebugRegisters32Complete : Prop :=
  ∀ (s : State) (c : Cond) (t : RReg) (n : BitVec 4),
    (s.condPassed c = true → s.tda32Open = true →
       exec (.mrcDbgdscrext c t) s = .next ((s.setR t (low32 s.dbg.mdscrEl1)).advance) ∧
       exec (.mcrDbgdscrext c t) s = .next
         (({ s with dbg := { s.dbg with mdscrEl1 := withLow32 s.dbg.mdscrEl1 (s.getR .r15 t) } } : State).advance) ∧
       exec (.mrcDbgwfar c t) s = .next ((s.setR t s.dbg.dbgwfar).advance) ∧
       exec (.mcrDbgwfar c t) s = .next (({ s with dbg := { s.dbg with dbgwfar := (s.getR .r15 t) } } :
         State).advance) ∧
       exec (.mrcDbgvcr c t) s = .next ((s.setR t s.dbg.dbgvcr).advance) ∧
       exec (.mcrDbgvcr c t) s = .next (({ s with dbg := { s.dbg with dbgvcr := (s.getR .r15 t) } } : State).advance)
         ∧
       exec (.mrcDbgoseccr c t) s = .next ((s.setR t (low32 s.dbg.oseccrEl1)).advance) ∧
       exec (.mcrDbgoseccr c t) s = .next
         (({ s with dbg := { s.dbg with oseccrEl1 := withLow32 s.dbg.oseccrEl1 (s.getR .r15 t) } } : State).advance) ∧
       exec (.mrcDbgclaimset c t) s = .next ((s.setR t (low32 s.dbg.claimSet)).advance) ∧
       exec (.mcrDbgclaimset c t) s = .next ((s.claimWrite).advance) ∧
       exec (.mrcDbgclaimclr c t) s = .next ((s.setR t (low32 s.dbg.claimClr)).advance) ∧
       exec (.mcrDbgclaimclr c t) s = .next ((s.claimWrite).advance) ∧
       exec (.mrcDbgauthstatus c t) s = .next ((s.setR t (low32 s.dbg.dbgauthstatus)).advance) ∧
       exec (.mrcDbgdevid c t) s = .next ((s.setR t s.dbg.dbgdevid).advance) ∧
       exec (.mrcDbgdevid1 c t) s = .next ((s.setR t s.dbg.dbgdevid1).advance) ∧
       exec (.mrcDbgdevid2 c t) s = .next ((s.setR t s.dbg.dbgdevid2).advance)) ∧
    (s.condPassed c = true → n.toNat < s.cfg.breakpoints → s.tda32Open = true →
       exec (.mrcDbgbvr c n t) s = .next ((s.setR t (low32 (vget s.dbg.bvr n.toNat))).advance) ∧
       exec (.mcrDbgbvr c n t) s = .next
         (({ s with dbg := { s.dbg with bvr := vset s.dbg.bvr n.toNat (withLow32 (vget s.dbg.bvr n.toNat) (s.getR .r15 t)) } } : State).advance) ∧
       exec (.mrcDbgbcr c n t) s = .next ((s.setR t (low32 (vget s.dbg.bcr n.toNat))).advance) ∧
       exec (.mcrDbgbcr c n t) s = .next
         (({ s with dbg := { s.dbg with bcr := vset s.dbg.bcr n.toNat (withLow32 (vget s.dbg.bcr n.toNat) (s.getR .r15 t)) } } : State).advance) ∧
       exec (.mrcDbgbxvr c n t) s = .next ((s.setR t ((vget s.dbg.bvr n.toNat).extractLsb' 32 32)).advance) ∧
       exec (.mcrDbgbxvr c n t) s = .next
         (({ s with dbg := { s.dbg with bvr := vset s.dbg.bvr n.toNat ((s.getR .r15 t) ++ low32 (vget s.dbg.bvr n.toNat)) } } : State).advance)) ∧
    (s.condPassed c = true → n.toNat < s.cfg.watchpoints → s.tda32Open = true →
       exec (.mrcDbgwvr c n t) s = .next ((s.setR t (low32 (vget s.dbg.wvr n.toNat))).advance) ∧
       exec (.mcrDbgwvr c n t) s = .next
         (({ s with dbg := { s.dbg with wvr := vset s.dbg.wvr n.toNat (withLow32 (vget s.dbg.wvr n.toNat) (s.getR .r15 t)) } } : State).advance) ∧
       exec (.mrcDbgwcr c n t) s = .next ((s.setR t (low32 (vget s.dbg.wcr n.toNat))).advance) ∧
       exec (.mcrDbgwcr c n t) s = .next
         (({ s with dbg := { s.dbg with wcr := vset s.dbg.wcr n.toNat (withLow32 (vget s.dbg.wcr n.toNat) (s.getR .r15 t)) } } : State).advance)) ∧
    (s.condPassed c = true → s.tdosa32Open false = true →
       exec (.mcrDbgoslar c t) s = .next ((s.osLockWrite).advance) ∧
       exec (.mrcDbgoslsr c t) s = .next ((s.setR t (low32 s.dbg.oslsr)).advance) ∧
       exec (.mrcDbgprcr c t) s = .next ((s.setR t (low32 s.dbg.dbgprcr)).advance) ∧
       exec (.mcrDbgprcr c t) s = .next
         (({ s with dbg := { s.dbg with dbgprcr := withLow32 s.dbg.dbgprcr (s.getR .r15 t) } } : State).advance)) ∧
    (s.condPassed c = true → s.tdosa32Open true = true →
       exec (.mrcDbgosdlr c t) s = .next ((s.setR t (low32 s.dbg.osdlr)).advance) ∧
       exec (.mcrDbgosdlr c t) s = .next
         (({ s with dbg := { s.dbg with osdlr := withLow32 s.dbg.osdlr (s.getR .r15 t) } } : State).advance)) ∧
    (s.condPassed c = true → s.trfcr32Open = true →
       exec (.mrcTrfcr c t) s = .next ((s.setR t (low32 s.spe.trfcrEl1)).advance) ∧
       exec (.mcrTrfcr c t) s = .next
         (({ s with spe := { s.spe with trfcrEl1 := withLow32 s.spe.trfcrEl1 (s.getR .r15 t) } } : State).advance))

/-- DBGDIDR, DBGDSCRint, DBGDTRRXint, DBGDTRTXint, DBGDCCINT, DBGDTRRXext, DBGDTRTXext, DBGDRAR and DBGDSAR: under a
condition that passes and State.dcc32UserOpen, dcc32Open, dtr32Open, tdra32Open (R133, R134, R137 written out level by
level; the EL2 and EL3 rows that R133 and R137 do not print: notes/assumptions 33) the MRC gives Rt the register and
the MCR gives the register Rt. The values read and stored are the model's choice, storage (notes/assumptions 13); so
are the storage that DBGDRAR, DBGDSAR and the DCC names share with the AArch64 registers (notes/assumptions 14), the
DCC flags (notes/assumptions 15) and R15 (notes/assumptions 10). (R133, R134, R137) -/
def Obligations.DccRegisters32Complete : Prop :=
  ∀ (s : State) (c : Cond) (t : RReg),
    (s.condPassed c = true → s.dcc32UserOpen false = true →
       exec (.mrcDbgdidr c t) s = .next ((s.setR t s.dbg.dbgdidr).advance)) ∧
    (s.condPassed c = true → s.dcc32UserOpen true = true →
       exec (.mrcDbgdscrint c t) s = .next ((s.setR t (low32 s.dbg.mdccsrEl0)).advance)) ∧
    (s.condPassed c = true → s.dtr32Open = true →
       exec (.mrcDbgdtrrxint c t) s = .next (((s.dtrRxTaken).setR t (s.dbg.dtrRx)).advance) ∧
       exec (.mcrDbgdtrtxint c t) s = .next ((s.dtrTxWrite (s.getR .r15 t)).advance)) ∧
    (s.condPassed c = true → s.dcc32Open = true →
       exec (.mrcDbgdccint c t) s = .next ((s.setR t (low32 s.dbg.mdccintEl1)).advance) ∧
       exec (.mcrDbgdccint c t) s = .next
         (({ s with dbg := { s.dbg with mdccintEl1 := withLow32 s.dbg.mdccintEl1 (s.getR .r15 t) } } :
           State).advance) ∧
       exec (.mrcDbgdtrrxext c t) s = .next ((s.setR t (low32 s.dbg.osdtrrxEl1)).advance) ∧
       exec (.mcrDbgdtrrxext c t) s = .next
         (({ s with dbg := { s.dbg with osdtrrxEl1 := withLow32 s.dbg.osdtrrxEl1 (s.getR .r15 t) } } :
           State).advance) ∧
       exec (.mrcDbgdtrtxext c t) s = .next ((s.setR t (low32 s.dbg.osdtrtxEl1)).advance) ∧
       exec (.mcrDbgdtrtxext c t) s = .next
         (({ s with dbg := { s.dbg with osdtrtxEl1 := withLow32 s.dbg.osdtrtxEl1 (s.getR .r15 t) } } :
           State).advance)) ∧
    (s.condPassed c = true → s.tdra32Open = true →
       exec (.mrcDbgdrar c t) s = .next ((s.setR t (low32 s.dbg.mdrar)).advance) ∧
       exec (.mrcDbgdsar c t) s = .next ((s.setR t (low32 s.dbg.dbgdsar)).advance))

/-- Under a condition that passes and State.pmu32Open (the chain of R168 written out level by level) MRC and MCR of
PMCR, the set and clear registers, PMSWINC, PMSELR, PMCEID0 to PMCEID3, PMCCNTR, PMCCFILTR, PMUSERENR, PMINTENSET,
PMINTENCLR and PMMIR act as the AArch64 register of the same name, on its low 32 bits (PMCEID2 and PMCEID3 on the high
32 bits of PMCEID0_EL0 and PMCEID1_EL0, notes/assumptions 14). The values read and stored are the model's choice,
storage (notes/assumptions 13); so are the increments of PMSWINC (notes/assumptions 18), the stored bits of PMCR
(notes/assumptions 19), the bit positions (notes/assumptions 20) and R15 (notes/assumptions 10). (R168, R173) -/
def Obligations.PmuRegisters32Complete : Prop :=
  ∀ (s : State) (c : Cond) (t : RReg),
    (s.condPassed c = true → s.pmu32Open s.cfg.havePMUv3 gateEN true none true = true →
       exec (.mrcPmcr c t) s = .next ((s.setR t (low32 s.pmcrRead)).advance)) ∧
    (s.condPassed c = true → s.pmu32Open s.cfg.havePMUv3 gateEN true (some (false, 21)) true = true →
       exec (.mcrPmcr c t) s = .next ((s.pmcrWrite (withLow32 s.pmu.pmcr (s.getR .r15 t))).advance)) ∧
    (s.condPassed c = true → s.pmu32Open s.cfg.havePMUv3 gateEN true (some (true, 16)) false = true →
       exec (.mrcPmcntenset c t) s = .next ((s.setR t (low32 (s.pmu.pmcnten &&& s.visibleMask))).advance) ∧
       exec (.mrcPmcntenclr c t) s = .next ((s.setR t (low32 (s.pmu.pmcnten &&& s.visibleMask))).advance)) ∧
    (s.condPassed c = true → s.pmu32Open s.cfg.havePMUv3 gateEN true (some (false, 16)) false = true →
       exec (.mcrPmcntenset c t) s = .next
         (({ s with pmu := { s.pmu with pmcnten := s.maskSet s.pmu.pmcnten (zext64 (s.getR .r15 t)) } } :
           State).advance) ∧
       exec (.mcrPmcntenclr c t) s = .next
         (({ s with pmu := { s.pmu with pmcnten := s.maskClear s.pmu.pmcnten (zext64 (s.getR .r15 t)) } } :
           State).advance)) ∧
    (s.condPassed c = true → s.pmu32Open s.cfg.havePMUv3 gateEN true (some (true, 18)) false = true →
       exec (.mrcPmovsr c t) s = .next ((s.setR t (low32 (s.pmu.pmovs &&& s.visibleMask))).advance) ∧
       exec (.mrcPmovsset c t) s = .next ((s.setR t (low32 (s.pmu.pmovs &&& s.visibleMask))).advance)) ∧
    (s.condPassed c = true → s.pmu32Open s.cfg.havePMUv3 gateEN true (some (false, 18)) false = true →
       exec (.mcrPmovsr c t) s = .next
         (({ s with pmu := { s.pmu with pmovs := s.maskClear s.pmu.pmovs (zext64 (s.getR .r15 t)) } } :
           State).advance) ∧
       exec (.mcrPmovsset c t) s = .next
         (({ s with pmu := { s.pmu with pmovs := s.maskSet s.pmu.pmovs (zext64 (s.getR .r15 t)) } } :
           State).advance)) ∧
    (s.condPassed c = true → s.pmu32Open s.cfg.havePMUv3 gateSW true (some (false, 20)) false = true →
       exec (.mcrPmswinc c t) s = .next ((s.softwareIncrement (zext64 (s.getR .r15 t))).advance)) ∧
    (s.condPassed c = true → s.pmu32Open s.cfg.havePMUv3 gateER true (some (true, 19)) false = true →
       exec (.mrcPmselr c t) s = .next ((s.setR t (low32 s.pmu.pmselr)).advance)) ∧
    (s.condPassed c = true → s.pmu32Open s.cfg.havePMUv3 gateER true (some (false, 19)) false = true →
       exec (.mcrPmselr c t) s = .next
         (({ s with pmu := { s.pmu with pmselr := withLow32 s.pmu.pmselr (s.getR .r15 t) } } : State).advance)) ∧
    (s.condPassed c = true → s.pmu32Open s.cfg.havePMUv3 gateEN true none false = true →
       exec (.mrcPmceid0 c t) s = .next ((s.setR t (low32 s.pmu.pmceid0)).advance) ∧
       exec (.mrcPmceid1 c t) s = .next ((s.setR t (low32 s.pmu.pmceid1)).advance)) ∧
    (s.condPassed c = true → s.pmu32Open (s.cfg.havePMUv3 && s.cfg.havePMUv3p1) gateEN true none false = true →
       exec (.mrcPmceid2 c t) s = .next ((s.setR t (s.pmu.pmceid0.extractLsb' 32 32)).advance) ∧
       exec (.mrcPmceid3 c t) s = .next ((s.setR t (s.pmu.pmceid1.extractLsb' 32 32)).advance)) ∧
    (s.condPassed c = true → s.pmu32Open s.cfg.havePMUv3 gateCR true (some (true, 15)) false = true →
       exec (.mrcPmccntr c t) s = .next ((s.setR t (low32 s.pmu.pmccntr)).advance)) ∧
    (s.condPassed c = true → s.pmu32Open s.cfg.havePMUv3 gateEN true (some (false, 15)) false = true →
       exec (.mcrPmccntr c t) s = .next
         (({ s with pmu := { s.pmu with pmccntr := withLow32 s.pmu.pmccntr (s.getR .r15 t) } } : State).advance)) ∧
    (s.condPassed c = true → s.pmu32Open s.cfg.havePMUv3 .open true (some (true, 57)) false = true →
       exec (.mrcPmuserenr c t) s = .next ((s.setR t (low32 s.pmu.pmuserenr)).advance)) ∧
    (s.condPassed c = true → s.pmu32Open s.cfg.havePMUv3 .undefinedAtEl0 true (some (false, 57)) false = true →
       exec (.mcrPmuserenr c t) s = .next
         (({ s with pmu := { s.pmu with pmuserenr := withLow32 s.pmu.pmuserenr (s.getR .r15 t) } } : State).advance))
           ∧
    (s.condPassed c = true → s.pmu32Open s.cfg.havePMUv3 .undefinedAtEl0 true (some (true, 17)) false = true →
       exec (.mrcPmintenset c t) s = .next ((s.setR t (low32 (s.pmu.pminten &&& s.visibleMask))).advance) ∧
       exec (.mrcPmintenclr c t) s = .next ((s.setR t (low32 (s.pmu.pminten &&& s.visibleMask))).advance)) ∧
    (s.condPassed c = true → s.pmu32Open s.cfg.havePMUv3 .undefinedAtEl0 true (some (false, 17)) false = true →
       exec (.mcrPmintenset c t) s = .next
         (({ s with pmu := { s.pmu with pminten := s.maskSet s.pmu.pminten (zext64 (s.getR .r15 t)) } } :
           State).advance) ∧
       exec (.mcrPmintenclr c t) s = .next
         (({ s with pmu := { s.pmu with pminten := s.maskClear s.pmu.pminten (zext64 (s.getR .r15 t)) } } :
           State).advance)) ∧
    (s.condPassed c = true → s.pmu32Open (s.cfg.havePMUv3 && s.cfg.havePMUv3p4) .undefinedAtEl0 true (some (true,
      22)) false = true →
       exec (.mrcPmmir c t) s = .next ((s.setR t (low32 s.pmu.pmmir)).advance)) ∧
    (s.condPassed c = true → s.pmu32Open s.cfg.havePMUv3 gateEN false (some (true, 14)) false = true →
       exec (.mrcPmccfiltr c t) s = .next ((s.setR t (low32 s.pmu.pmccfiltr)).advance)) ∧
    (s.condPassed c = true → s.pmu32Open s.cfg.havePMUv3 gateEN false (some (false, 14)) false = true →
       exec (.mcrPmccfiltr c t) s = .next
         (({ s with pmu := { s.pmu with pmccfiltr := withLow32 s.pmu.pmccfiltr (s.getR .r15 t) } } : State).advance))

/-- PMEVCNTR<n>, PMEVTYPER<n>, PMXEVCNTR and PMXEVTYPER: under a condition that passes, State.pmu32Open and
State.counterOpen the MRC gives Rt the low half of the counter or type register and the MCR writes it; PMXEVTYPER with
SEL = 31 reaches PMCCFILTR. What a write does to the high half is the model's (notes/assumptions 14). The values read
and stored are the model's choice, storage (notes/assumptions 13); so are R15 (notes/assumptions 10) and the bit
positions, that of PMSELR.SEL included (notes/assumptions 20). (R168, R171) -/
def Obligations.CounterRegisters32Complete : Prop :=
  ∀ (s : State) (c : Cond) (t : RReg) (n : BitVec 5),
    (s.condPassed c = true → s.pmu32Open s.cfg.havePMUv3 gateEN true (some (true, 13)) false = true → s.counterOpen
      s.pmselrSel = true →
       exec (.mrcPmxevtyper c t) s = .next ((s.setR t (low32 (s.typeRead s.pmselrSel))).advance)) ∧
    (s.condPassed c = true → s.pmselrSel = 31 → s.pmu32Open s.cfg.havePMUv3 gateEN true (some (true, 13)) false =
      true →
       exec (.mrcPmxevtyper c t) s = .next ((s.setR t (low32 (s.typeRead 31))).advance)) ∧
    (s.condPassed c = true → s.pmu32Open s.cfg.havePMUv3 gateEN true (some (false, 13)) false = true → s.counterOpen
      s.pmselrSel = true →
       exec (.mcrPmxevtyper c t) s = .next ((s.typeWrite s.pmselrSel (withLow32 (s.typeRead s.pmselrSel) (s.getR .r15
         t))).advance)) ∧
    (s.condPassed c = true → s.pmselrSel = 31 → s.pmu32Open s.cfg.havePMUv3 gateEN true (some (false, 13)) false =
      true →
       exec (.mcrPmxevtyper c t) s = .next ((s.typeWrite 31 (withLow32 (s.typeRead 31) (s.getR .r15 t))).advance)) ∧
    (s.condPassed c = true → s.pmu32Open s.cfg.havePMUv3 gateER true (some (true, 12)) false = true → s.counterOpen
      s.pmselrSel = true →
       exec (.mrcPmxevcntr c t) s = .next ((s.setR t (low32 (vget s.pmu.evcntr s.pmselrSel))).advance)) ∧
    (s.condPassed c = true → s.pmu32Open s.cfg.havePMUv3 gateEN true (some (false, 12)) false = true → s.counterOpen
      s.pmselrSel = true →
       exec (.mcrPmxevcntr c t) s = .next ((s.counterWrite s.pmselrSel (withLow32 (vget s.pmu.evcntr s.pmselrSel)
         (s.getR .r15 t))).advance)) ∧
    (s.condPassed c = true → s.pmu32Open s.cfg.havePMUv3 gateER false (some (true, 12)) false = true → s.counterOpen
      n.toNat = true →
       exec (.mrcPmevcntr c n t) s = .next ((s.setR t (low32 (vget s.pmu.evcntr n.toNat))).advance)) ∧
    (s.condPassed c = true → s.pmu32Open s.cfg.havePMUv3 gateEN false (some (false, 12)) false = true → s.counterOpen
      n.toNat = true →
       exec (.mcrPmevcntr c n t) s = .next ((s.counterWrite n.toNat (withLow32 (vget s.pmu.evcntr n.toNat) (s.getR
         .r15 t))).advance)) ∧
    (s.condPassed c = true → s.pmu32Open s.cfg.havePMUv3 gateEN false (some (true, 13)) false = true → s.counterOpen
      n.toNat = true →
       exec (.mrcPmevtyper c n t) s = .next ((s.setR t (low32 (vget s.pmu.evtyper n.toNat))).advance)) ∧
    (s.condPassed c = true → s.pmu32Open s.cfg.havePMUv3 gateEN false (some (false, 13)) false = true → s.counterOpen
      n.toNat = true →
       exec (.mcrPmevtyper c n t) s = .next
         (({ s with pmu := { s.pmu with evtyper := vset s.pmu.evtyper n.toNat (withLow32 (vget s.pmu.evtyper n.toNat) (s.getR .r15 t)) } } : State).advance))

/-- Under a condition that passes: MRRC of DBGDRAR, DBGDSAR and PMCCNTR gives Rt the low and Rt2 the high half; MCRR
of PMCCNTR writes Rt2:Rt; LDC writes a word of memory to DBGDTRTXint; STC stores DBGDTRRXint in a word of memory and
takes it; both write the base register back where W is set. The address is the base plus or minus imm8 * 4
(notes/assumptions 35), the byte order that of SCTLR (notes/assumptions 7). The values read and stored are the model's
choice, storage (notes/assumptions 13); so are the storage of DBGDRAR, DBGDSAR and PMCCNTR (notes/assumptions 14), the
flags of the transfer registers (notes/assumptions 15), which half goes to which register (notes/assumptions 42) and
R15 (notes/assumptions 10). (R134, R136, R168) -/
def Obligations.TransferInstructionsComplete : Prop :=
  ∀ (s : State) (c : Cond) (t t2 : RReg) (p u w : Bool) (rn : RReg) (imm8 : BitVec 8),
    (s.condPassed c = true → s.tdra32Open = true →
       exec (.mrrcDbgdrar c t t2) s = .next (((s.setR t (low32 s.dbg.mdrar)).setR t2 (s.dbg.mdrar.extractLsb' 32
         32)).advance) ∧
       exec (.mrrcDbgdsar c t t2) s = .next (((s.setR t (low32 s.dbg.dbgdsar)).setR t2 (s.dbg.dbgdsar.extractLsb' 32
         32)).advance)) ∧
    (s.condPassed c = true → s.pmu32Open s.cfg.havePMUv3 gateCR true (some (true, 15)) false = true →
       exec (.mrrcPmccntr c t t2) s = .next (((s.setR t (low32 s.pmu.pmccntr)).setR t2 (s.pmu.pmccntr.extractLsb' 32
         32)).advance)) ∧
    (s.condPassed c = true → s.pmu32Open s.cfg.havePMUv3 gateEN true (some (false, 15)) false = true →
       exec (.mcrrPmccntr c t t2) s = .next
         (({ s with pmu := { s.pmu with pmccntr := s.getR .r15Second t2 ++ s.getR .r15 t } } : State).advance)) ∧
    (s.condPassed c = true → s.dtr32Open = true →
       exec (.ldcDbgdtrtxint c p u w rn imm8) s = .next (((s.memWriteBack ⟨p, u, w, rn, imm8⟩ (s.memOffset
         ⟨p, u, w, rn, imm8⟩)).dtrTxWrite (BitVec.ofNat 32 (s.load s.bigEndianData (s.memAddress ⟨p, u, w, rn, imm8⟩)
           4))).advance) ∧
       exec (.stcDbgdtrrxint c p u w rn imm8) s = .next (((s.store s.bigEndianData (s.memAddress ⟨p, u, w, rn, imm8⟩)
         4 s.dbg.dtrRx.toNat).dtrRxTaken.memWriteBack ⟨p, u, w, rn, imm8⟩ (s.memOffset ⟨p, u, w, rn, imm8⟩)).advance))

/-- At EL1 with EL2 enabled and using AArch64 and HCR_EL2.<NV2,NV1,NV> of the pattern of the register (1x1, or 111 for
PMSCR_EL1 and TRFCR_EL1), an access that no trap takes loads or stores 8 bytes at the offset of the register from
VNCR_EL2, in place of the register. MDCR_EL2 has no such offset: its access traps. CurrentEL reads as EL2 at EL1 while
HCR_EL2.NV is 1, with EL2 enabled or not, and else as the level. The base and the byte order are the model's
(notes/assumptions 36). (R53, R117, R201, R204, R208, R36, R87) -/
def Obligations.NestedVirtualizationGoesToMemory : Prop :=
  ∀ (s : State) (t : XReg),
    (s.redirectAny = true → s.tdaOpen true 4 = true →
       exec (.mrsMdscrEl1 t) s = .next (s.setX t (s.nvRead 0x158)).advance) ∧
    (s.redirectAny = true → s.tdaOpen false 4 = true →
       exec (.msrMdscrEl1 t) s = .next (s.nvWrite 0x158 (s.getX t)).advance) ∧
    (s.redirectAll = true → s.speOpen s.tpms true 26 = true →
       exec (.mrsPmscrEl1 t) s = .next (s.setX t (s.nvRead 0x828)).advance) ∧
    (s.redirectAll = true → s.speOpen s.tpms false 26 = true →
       exec (.msrPmscrEl1 t) s = .next (s.nvWrite 0x828 (s.getX t)).advance) ∧
    (s.redirectAny = true → s.speOpen s.tpms true 29 = true →
       exec (.mrsPmsicrEl1 t) s = .next (s.setX t (s.nvRead 0x838)).advance) ∧
    (s.redirectAny = true → s.speOpen s.tpms false 29 = true →
       exec (.msrPmsicrEl1 t) s = .next (s.nvWrite 0x838 (s.getX t)).advance) ∧
    (s.redirectAny = true → s.speOpen s.tpms true 31 = true →
       exec (.mrsPmsirrEl1 t) s = .next (s.setX t (s.nvRead 0x840)).advance) ∧
    (s.redirectAny = true → s.speOpen s.tpms false 31 = true →
       exec (.msrPmsirrEl1 t) s = .next (s.nvWrite 0x840 (s.getX t)).advance) ∧
    (s.redirectAny = true → s.speOpen s.tpms true 27 = true →
       exec (.mrsPmsevfrEl1 t) s = .next (s.setX t (s.nvRead 0x830)).advance) ∧
    (s.redirectAny = true → s.speOpen s.tpms false 27 = true →
       exec (.msrPmsevfrEl1 t) s = .next (s.nvWrite 0x830 (s.getX t)).advance) ∧
    (s.redirectAny = true → s.speOpen s.tpms true 32 = true →
       exec (.mrsPmslatfrEl1 t) s = .next (s.setX t (s.nvRead 0x848)).advance) ∧
    (s.redirectAny = true → s.speOpen s.tpms false 32 = true →
       exec (.msrPmslatfrEl1 t) s = .next (s.nvWrite 0x848 (s.getX t)).advance) ∧
    (s.redirectAny = true → s.speOpen (!s.e2pb.getLsbD 0) true 23 = true →
       exec (.mrsPmblimitrEl1 t) s = .next (s.setX t (s.nvRead 0x800)).advance) ∧
    (s.redirectAny = true → s.speOpen (!s.e2pb.getLsbD 0) false 23 = true →
       exec (.msrPmblimitrEl1 t) s = .next (s.nvWrite 0x800 (s.getX t)).advance) ∧
    (s.redirectAny = true → s.speOpen (!s.e2pb.getLsbD 0) true 24 = true →
       exec (.mrsPmbptrEl1 t) s = .next (s.setX t (s.nvRead 0x810)).advance) ∧
    (s.redirectAny = true → s.speOpen (!s.e2pb.getLsbD 0) false 24 = true →
       exec (.msrPmbptrEl1 t) s = .next (s.nvWrite 0x810 (s.getX t)).advance) ∧
    (s.redirectAny = true → s.speOpen (!s.e2pb.getLsbD 0) true 25 = true →
       exec (.mrsPmbsrEl1 t) s = .next (s.setX t (s.nvRead 0x820)).advance) ∧
    (s.redirectAny = true → s.speOpen (!s.e2pb.getLsbD 0) false 25 = true →
       exec (.msrPmbsrEl1 t) s = .next (s.nvWrite 0x820 (s.getX t)).advance) ∧
    (s.redirectAll = true → s.trfcrOpen true = true →
       exec (.mrsTrfcrEl1 t) s = .next (s.setX t (s.nvRead 0x880)).advance) ∧
    (s.redirectAll = true → s.trfcrOpen false = true →
       exec (.msrTrfcrEl1 t) s = .next (s.nvWrite 0x880 (s.getX t)).advance) ∧
    (s.redirectAny = true →
      exec (.mrsMdcrEl2 t) s = .next (s.takeTrap .el2 0x18 (0x330403 ||| (t.setWidth 25 <<< 5)))) ∧
    (s.cfg.haveNV = true → s.ps.el = .el1 → s.ctl.hcrEl2.getLsbD 42 = true → s.currentEL = 8) ∧
    (s.ps.el ≠ .el1 ∨ s.cfg.haveNV = false ∨ s.ctl.hcrEl2.getLsbD 42 = false →
      s.currentEL = BitVec.ofNat 64 (s.ps.el.num * 4))

/-- With EL2 enabled and using AArch64 and MDCR_EL2.TDCC = 1, at EL1 every MRS and MSR of MDCCSR_EL0, MDCCINT_EL1,
OSDTRRX_EL1, OSDTRTX_EL1 and, in Non-debug state, of DBGDTR_EL0, DBGDTRRX_EL0, DBGDTRTX_EL0 traps to EL2 with EC 0x18
and the ISS that the rule of the register prints; at EL0, unless MDSCR_EL1.TDCC takes it, so do MDCCSR_EL0 and, in
Non-debug state, the transfer registers. With EL3 using AArch64 and MDCR_EL3.TDCC or TDA = 1 the same accesses trap to
EL3, at EL2, and at EL1 and EL0 where no earlier check of R110 traps them. (R101, R110, R111, R112, R113, R114, R115,
R116, R221, R39) -/
def Obligations.TdccTraps : Prop :=
  ∀ (s : State) (t : XReg),
    (s.a64EL2 = true → s.tdcc = true →
    (s.ps.el = .el1 →
       exec (.mrsMdccsrEl0 t) s = .next (s.takeTrap .el2 0x18 (0x20C003 ||| (t.setWidth 25 <<< 5))) ∧
       exec (.mrsMdccintEl1 t) s = .next (s.takeTrap .el2 0x18 (0x200005 ||| (t.setWidth 25 <<< 5))) ∧
       exec (.msrMdccintEl1 t) s = .next (s.takeTrap .el2 0x18 (0x200004 ||| (t.setWidth 25 <<< 5))) ∧
       exec (.mrsOsdtrrxEl1 t) s = .next (s.takeTrap .el2 0x18 (0x240001 ||| (t.setWidth 25 <<< 5))) ∧
       exec (.msrOsdtrrxEl1 t) s = .next (s.takeTrap .el2 0x18 (0x240000 ||| (t.setWidth 25 <<< 5))) ∧
       exec (.mrsOsdtrtxEl1 t) s = .next (s.takeTrap .el2 0x18 (0x240007 ||| (t.setWidth 25 <<< 5))) ∧
       exec (.msrOsdtrtxEl1 t) s = .next (s.takeTrap .el2 0x18 (0x240006 ||| (t.setWidth 25 <<< 5)))) ∧
    (s.ps.el = .el1 → s.inp.halted = false →
       exec (.mrsDbgdtrEl0 t) s = .next (s.takeTrap .el2 0x18 (0x20C009 ||| (t.setWidth 25 <<< 5))) ∧
       exec (.msrDbgdtrEl0 t) s = .next (s.takeTrap .el2 0x18 (0x20C008 ||| (t.setWidth 25 <<< 5))) ∧
       exec (.mrsDbgdtrrxEl0 t) s = .next (s.takeTrap .el2 0x18 (0x20C00B ||| (t.setWidth 25 <<< 5))) ∧
       exec (.msrDbgdtrtxEl0 t) s = .next (s.takeTrap .el2 0x18 (0x20C00A ||| (t.setWidth 25 <<< 5)))) ∧
    (s.ps.el = .el0 → s.udccDis = false →
       exec (.mrsMdccsrEl0 t) s = .next (s.takeTrap .el2 0x18 (0x20C003 ||| (t.setWidth 25 <<< 5)))) ∧
    (s.ps.el = .el0 → s.udccDis = false → s.inp.halted = false →
       exec (.mrsDbgdtrEl0 t) s = .next (s.takeTrap .el2 0x18 (0x20C009 ||| (t.setWidth 25 <<< 5))) ∧
       exec (.msrDbgdtrEl0 t) s = .next (s.takeTrap .el2 0x18 (0x20C008 ||| (t.setWidth 25 <<< 5))) ∧
       exec (.mrsDbgdtrrxEl0 t) s = .next (s.takeTrap .el2 0x18 (0x20C00B ||| (t.setWidth 25 <<< 5))) ∧
       exec (.msrDbgdtrtxEl0 t) s = .next (s.takeTrap .el2 0x18 (0x20C00A ||| (t.setWidth 25 <<< 5))))) ∧
    (s.a64EL3 = true → (s.tdcc3 || s.tda3) = true →
      let dtr := if s.inp.halted then [] else dtrAccesses t
      (∀ i ∈ .mrsMdccsrEl0 t :: dccAccesses t ++ dtr,
        s.ps.el = .el2 ∨ (s.ps.el = .el1 ∧ (s.a64EL2 && (s.tdcc || s.tde || s.tda)) = false) →
        exec i s = .next (i.trapped s .el3)) ∧
      (∀ i ∈ .mrsMdccsrEl0 t :: dtr,
        s.ps.el = .el0 → (!s.inp.el1A32 && s.udccDis) = false →
        (s.a64EL2 && (s.tge || s.tdcc || s.tde || s.tda)) = false → exec i s = .next (i.trapped s .el3)))

/-- With EL2 enabled and using AArch64, at EL1: MDCR_EL2.TDA or TDE traps every register of R104 (the transfer
registers in Non-debug state, a breakpoint or watchpoint that is implemented), TDRA or TDE traps MDRAR_EL1, TDOSA or
TDE traps OSLAR_EL1, OSLSR_EL1, DBGPRCR_EL1 and, with ARMv8.0-DoubleLock or where the implementation says so,
OSDLR_EL1; all to EL2 with EC 0x18 and the printed ISS. At EL0 TDA, TDE or HCR_EL2.TGE traps MDCCSR_EL0 and, in
Non-debug state, the transfer registers, unless MDSCR_EL1.TDCC takes them. A fine-grained bit traps its register at
EL1 to EL2 (bit numbers: notes/assumptions 20). With EL3 using AArch64, MDCR_EL3.TDA traps the TDA registers and
MDRAR_EL1, MDCR_EL3.TDOSA the TDOSA registers to EL3, at EL2, and at EL1 where no EL2 check traps them. An access to
an implemented breakpoint or watchpoint register that no check traps enters Debug state at EL1, EL2 and EL3, not
performed, when EL1 uses AArch64, OSLSR_EL1.OSLK = 0, HaltingAllowed() and EDSCR.TDA = 1 (bit number:
notes/assumptions 20); that the halt changes nothing else is the model's choice (notes/assumptions 31). Registers of
R127 to R130 have no halt branch. One that is not implemented is Undefined. (41_debug_traps.md, R102, R103, R104,
R106, R119, R120, R121, R122, R126, R129, R221) -/
def Obligations.DebugRegisterTraps : Prop :=
  ∀ (s : State) (t : XReg) (n : BitVec 4),
    (s.a64EL2 = true →
    (s.ps.el = .el1 → (s.tde || s.tda) = true →
       exec (.mrsMdccsrEl0 t) s = .next (s.takeTrap .el2 0x18 (0x20C003 ||| (t.setWidth 25 <<< 5))) ∧
       exec (.mrsMdccintEl1 t) s = .next (s.takeTrap .el2 0x18 (0x200005 ||| (t.setWidth 25 <<< 5))) ∧
       exec (.msrMdccintEl1 t) s = .next (s.takeTrap .el2 0x18 (0x200004 ||| (t.setWidth 25 <<< 5))) ∧
       exec (.mrsOsdtrrxEl1 t) s = .next (s.takeTrap .el2 0x18 (0x240001 ||| (t.setWidth 25 <<< 5))) ∧
       exec (.msrOsdtrrxEl1 t) s = .next (s.takeTrap .el2 0x18 (0x240000 ||| (t.setWidth 25 <<< 5))) ∧
       exec (.mrsOsdtrtxEl1 t) s = .next (s.takeTrap .el2 0x18 (0x240007 ||| (t.setWidth 25 <<< 5))) ∧
       exec (.msrOsdtrtxEl1 t) s = .next (s.takeTrap .el2 0x18 (0x240006 ||| (t.setWidth 25 <<< 5))) ∧
       exec (.mrsMdscrEl1 t) s = .next (s.takeTrap .el2 0x18 (0x240005 ||| (t.setWidth 25 <<< 5))) ∧
       exec (.msrMdscrEl1 t) s = .next (s.takeTrap .el2 0x18 (0x240004 ||| (t.setWidth 25 <<< 5))) ∧
       exec (.mrsOseccrEl1 t) s = .next (s.takeTrap .el2 0x18 (0x24000D ||| (t.setWidth 25 <<< 5))) ∧
       exec (.msrOseccrEl1 t) s = .next (s.takeTrap .el2 0x18 (0x24000C ||| (t.setWidth 25 <<< 5))) ∧
       exec (.mrsDbgclaimsetEl1 t) s = .next (s.takeTrap .el2 0x18 (0x2C1C11 ||| (t.setWidth 25 <<< 5))) ∧
       exec (.msrDbgclaimsetEl1 t) s = .next (s.takeTrap .el2 0x18 (0x2C1C10 ||| (t.setWidth 25 <<< 5))) ∧
       exec (.mrsDbgclaimclrEl1 t) s = .next (s.takeTrap .el2 0x18 (0x2C1C13 ||| (t.setWidth 25 <<< 5))) ∧
       exec (.msrDbgclaimclrEl1 t) s = .next (s.takeTrap .el2 0x18 (0x2C1C12 ||| (t.setWidth 25 <<< 5))) ∧
       exec (.mrsDbgauthstatusEl1 t) s = .next (s.takeTrap .el2 0x18 (0x2C1C1D ||| (t.setWidth 25 <<< 5)))) ∧
    (s.ps.el = .el1 → (s.tde || s.tda) = true → s.inp.halted = false →
       exec (.mrsDbgdtrEl0 t) s = .next (s.takeTrap .el2 0x18 (0x20C009 ||| (t.setWidth 25 <<< 5))) ∧
       exec (.msrDbgdtrEl0 t) s = .next (s.takeTrap .el2 0x18 (0x20C008 ||| (t.setWidth 25 <<< 5))) ∧
       exec (.mrsDbgdtrrxEl0 t) s = .next (s.takeTrap .el2 0x18 (0x20C00B ||| (t.setWidth 25 <<< 5))) ∧
       exec (.msrDbgdtrtxEl0 t) s = .next (s.takeTrap .el2 0x18 (0x20C00A ||| (t.setWidth 25 <<< 5)))) ∧
    (s.ps.el = .el1 → (s.tde || s.tda) = true → n.toNat < s.cfg.breakpoints →
       exec (.mrsDbgbvrEl1 n t) s = .next (s.takeTrap .el2 0x18 (0x280001 ||| (n.setWidth 25 <<< 1) ||| (t.setWidth
         25 <<< 5))) ∧
       exec (.msrDbgbvrEl1 n t) s = .next (s.takeTrap .el2 0x18 (0x280000 ||| (n.setWidth 25 <<< 1) ||| (t.setWidth
         25 <<< 5))) ∧
       exec (.mrsDbgbcrEl1 n t) s = .next (s.takeTrap .el2 0x18 (0x2A0001 ||| (n.setWidth 25 <<< 1) ||| (t.setWidth
         25 <<< 5))) ∧
       exec (.msrDbgbcrEl1 n t) s = .next (s.takeTrap .el2 0x18 (0x2A0000 ||| (n.setWidth 25 <<< 1) ||| (t.setWidth
         25 <<< 5)))) ∧
    (s.ps.el = .el1 → (s.tde || s.tda) = true → n.toNat < s.cfg.watchpoints →
       exec (.mrsDbgwvrEl1 n t) s = .next (s.takeTrap .el2 0x18 (0x2C0001 ||| (n.setWidth 25 <<< 1) ||| (t.setWidth
         25 <<< 5))) ∧
       exec (.msrDbgwvrEl1 n t) s = .next (s.takeTrap .el2 0x18 (0x2C0000 ||| (n.setWidth 25 <<< 1) ||| (t.setWidth
         25 <<< 5))) ∧
       exec (.mrsDbgwcrEl1 n t) s = .next (s.takeTrap .el2 0x18 (0x2E0001 ||| (n.setWidth 25 <<< 1) ||| (t.setWidth
         25 <<< 5))) ∧
       exec (.msrDbgwcrEl1 n t) s = .next (s.takeTrap .el2 0x18 (0x2E0000 ||| (n.setWidth 25 <<< 1) ||| (t.setWidth
         25 <<< 5)))) ∧
    (s.ps.el = .el1 → (s.tde || s.tdra) = true →
       exec (.mrsMdrarEl1 t) s = .next (s.takeTrap .el2 0x18 (0x200401 ||| (t.setWidth 25 <<< 5)))) ∧
    (s.ps.el = .el1 → (s.tde || s.tdosa) = true →
       exec (.msrOslarEl1 t) s = .next (s.takeTrap .el2 0x18 (0x280400 ||| (t.setWidth 25 <<< 5))) ∧
       exec (.mrsOslsrEl1 t) s = .next (s.takeTrap .el2 0x18 (0x280403 ||| (t.setWidth 25 <<< 5))) ∧
       exec (.mrsDbgprcrEl1 t) s = .next (s.takeTrap .el2 0x18 (0x280409 ||| (t.setWidth 25 <<< 5))) ∧
       exec (.msrDbgprcrEl1 t) s = .next (s.takeTrap .el2 0x18 (0x280408 ||| (t.setWidth 25 <<< 5)))) ∧
    (s.ps.el = .el1 → (s.tde || s.tdosa) = true → (s.cfg.haveDoubleLock || s.cfg.tdosaTrapsOsdlr) = true →
       exec (.mrsOsdlrEl1 t) s = .next (s.takeTrap .el2 0x18 (0x280407 ||| (t.setWidth 25 <<< 5))) ∧
       exec (.msrOsdlrEl1 t) s = .next (s.takeTrap .el2 0x18 (0x280406 ||| (t.setWidth 25 <<< 5)))) ∧
    (s.ps.el = .el0 → (s.tge || s.tde || s.tda) = true → s.udccDis = false →
       exec (.mrsMdccsrEl0 t) s = .next (s.takeTrap .el2 0x18 (0x20C003 ||| (t.setWidth 25 <<< 5)))) ∧
    (s.ps.el = .el0 → (s.tge || s.tde || s.tda) = true → s.udccDis = false → s.inp.halted = false →
       exec (.mrsDbgdtrEl0 t) s = .next (s.takeTrap .el2 0x18 (0x20C009 ||| (t.setWidth 25 <<< 5))) ∧
       exec (.msrDbgdtrEl0 t) s = .next (s.takeTrap .el2 0x18 (0x20C008 ||| (t.setWidth 25 <<< 5))) ∧
       exec (.mrsDbgdtrrxEl0 t) s = .next (s.takeTrap .el2 0x18 (0x20C00B ||| (t.setWidth 25 <<< 5))) ∧
       exec (.msrDbgdtrtxEl0 t) s = .next (s.takeTrap .el2 0x18 (0x20C00A ||| (t.setWidth 25 <<< 5))))) ∧
    (s.ps.el = .el1 →
      (∀ a ∈ tdaAccesses t ++ osAccesses t, s.fgt1 a.read a.bit = true →
        exec a.instr s = .next (a.instr.trapped s .el2)) ∧
      (∀ a ∈ osdlrAccesses t, s.fgt1 a.read a.bit = true → s.cfg.haveDoubleLock = true →
        exec a.instr s = .next (a.instr.trapped s .el2)) ∧
      (∀ a ∈ breakAccesses n t, s.fgt1 a.read a.bit = true → n.toNat < s.cfg.breakpoints →
        exec a.instr s = .next (a.instr.trapped s .el2)) ∧
      (∀ a ∈ watchAccesses n t, s.fgt1 a.read a.bit = true → n.toNat < s.cfg.watchpoints →
        exec a.instr s = .next (a.instr.trapped s .el2))) ∧
    (let quiet (b : Bool) : Prop := s.ps.el = .el2 ∨ (s.ps.el = .el1 ∧ b = false)
     s.a64EL3 = true →
      (s.tda3 = true →
        (∀ a ∈ tdaAccesses t, quiet (s.fgt1 a.read a.bit || (s.a64EL2 && (s.tde || s.tda))) →
          exec a.instr s = .next (a.instr.trapped s .el3)) ∧
        (∀ a ∈ breakAccesses n t, quiet (s.fgt1 a.read a.bit || (s.a64EL2 && (s.tde || s.tda))) →
          n.toNat < s.cfg.breakpoints → exec a.instr s = .next (a.instr.trapped s .el3)) ∧
        (∀ a ∈ watchAccesses n t, quiet (s.fgt1 a.read a.bit || (s.a64EL2 && (s.tde || s.tda))) →
          n.toNat < s.cfg.watchpoints → exec a.instr s = .next (a.instr.trapped s .el3)) ∧
        (quiet (s.a64EL2 && (s.tde || s.tdra)) →
          exec (.mrsMdrarEl1 t) s = .next ((Instr.mrsMdrarEl1 t).trapped s .el3))) ∧
      (s.tdosa3 = true →
        (∀ a ∈ osAccesses t, quiet (s.fgt1 a.read a.bit || (s.a64EL2 && (s.tde || s.tdosa))) →
          exec a.instr s = .next (a.instr.trapped s .el3)) ∧
        ((s.cfg.haveDoubleLock || s.cfg.mdcrEl3TdosaTrapsOsdlr) = true → ∀ a ∈ osdlrAccesses t,
          quiet ((s.fgt1 a.read a.bit && s.cfg.haveDoubleLock) ||
            (s.a64EL2 && (s.tde || s.tdosa) && (s.cfg.haveDoubleLock || s.cfg.tdosaTrapsOsdlr))) →
          exec a.instr s = .next (a.instr.trapped s .el3)))) ∧
    (s.inp.el1A32 = false → s.dbg.oslsr.getLsbD 1 = false → s.inp.haltingAllowed = true →
      s.dbg.edscr.getLsbD 21 = true →
      ∀ a : FineAccess, (a ∈ breakAccesses n t ∧ n.toNat < s.cfg.breakpoints) ∨
          (a ∈ watchAccesses n t ∧ n.toNat < s.cfg.watchpoints) →
        s.ps.el = .el3 ∨ (s.ps.el = .el2 ∧ (s.a64EL3 && s.tda3) = false) ∨
          (s.ps.el = .el1 ∧ (s.fgt1 a.read a.bit || (s.a64EL2 && (s.tde || s.tda)) || (s.a64EL3 && s.tda3)) = false) →
        exec a.instr s = .next { s with inp := { s.inp with halted := true } }) ∧
    (∀ a : FineAccess, (a ∈ breakAccesses n t ∧ s.cfg.breakpoints ≤ n.toNat) ∨
        (a ∈ watchAccesses n t ∧ s.cfg.watchpoints ≤ n.toNat) → exec a.instr s = .next s.takeUndefined)

/-- With PMUv3, EL2 enabled and using AArch64 and MDCR_EL2.TPM = 1, at EL1 every MRS and MSR of a Performance Monitors
register, and at EL0 every one whose EL0 enable in PMUSERENR_EL0 is open, traps to EL2 with EC 0x18 and the printed
ISS (a counter register for a counter that the level may access, so that the check of R167 passes); PMCR_EL0 does so
under TPMCR too. The fine-grained bit of an access (bit numbers: notes/assumptions 20) traps it to EL2 at EL1, and at
EL0 where PMUSERENR_EL0 opens it. With EL3 using AArch64 and MDCR_EL3.TPM = 1 every access traps to EL3, at EL2, and
at EL1 and EL0 where no earlier check of R169 stops it. A register that does not exist is Undefined. (R150, R151,
R152, R153, R155, R158, R159, R163, R164, R165, R169, R221) -/
def Obligations.PmuTraps : Prop :=
  ∀ (s : State) (t : XReg) (n : BitVec 5),
    (s.a64EL2 = true → s.cfg.havePMUv3 = true →
    (s.ps.el = .el1 → s.tpm = true →
       exec (.mrsPmcrEl0 t) s = .next (s.takeTrap .el2 0x18 (0x30E419 ||| (t.setWidth 25 <<< 5))) ∧
       exec (.msrPmcrEl0 t) s = .next (s.takeTrap .el2 0x18 (0x30E418 ||| (t.setWidth 25 <<< 5))) ∧
       exec (.mrsPmcntensetEl0 t) s = .next (s.takeTrap .el2 0x18 (0x32E419 ||| (t.setWidth 25 <<< 5))) ∧
       exec (.msrPmcntensetEl0 t) s = .next (s.takeTrap .el2 0x18 (0x32E418 ||| (t.setWidth 25 <<< 5))) ∧
       exec (.mrsPmcntenclrEl0 t) s = .next (s.takeTrap .el2 0x18 (0x34E419 ||| (t.setWidth 25 <<< 5))) ∧
       exec (.msrPmcntenclrEl0 t) s = .next (s.takeTrap .el2 0x18 (0x34E418 ||| (t.setWidth 25 <<< 5))) ∧
       exec (.mrsPmovsclrEl0 t) s = .next (s.takeTrap .el2 0x18 (0x36E419 ||| (t.setWidth 25 <<< 5))) ∧
       exec (.msrPmovsclrEl0 t) s = .next (s.takeTrap .el2 0x18 (0x36E418 ||| (t.setWidth 25 <<< 5))) ∧
       exec (.msrPmswincEl0 t) s = .next (s.takeTrap .el2 0x18 (0x38E418 ||| (t.setWidth 25 <<< 5))) ∧
       exec (.mrsPmselrEl0 t) s = .next (s.takeTrap .el2 0x18 (0x3AE419 ||| (t.setWidth 25 <<< 5))) ∧
       exec (.msrPmselrEl0 t) s = .next (s.takeTrap .el2 0x18 (0x3AE418 ||| (t.setWidth 25 <<< 5))) ∧
       exec (.mrsPmceid0El0 t) s = .next (s.takeTrap .el2 0x18 (0x3CE419 ||| (t.setWidth 25 <<< 5))) ∧
       exec (.mrsPmceid1El0 t) s = .next (s.takeTrap .el2 0x18 (0x3EE419 ||| (t.setWidth 25 <<< 5))) ∧
       exec (.mrsPmccntrEl0 t) s = .next (s.takeTrap .el2 0x18 (0x30E41B ||| (t.setWidth 25 <<< 5))) ∧
       exec (.msrPmccntrEl0 t) s = .next (s.takeTrap .el2 0x18 (0x30E41A ||| (t.setWidth 25 <<< 5))) ∧
       exec (.mrsPmuserenrEl0 t) s = .next (s.takeTrap .el2 0x18 (0x30E41D ||| (t.setWidth 25 <<< 5))) ∧
       exec (.msrPmuserenrEl0 t) s = .next (s.takeTrap .el2 0x18 (0x30E41C ||| (t.setWidth 25 <<< 5))) ∧
       exec (.mrsPmovssetEl0 t) s = .next (s.takeTrap .el2 0x18 (0x36E41D ||| (t.setWidth 25 <<< 5))) ∧
       exec (.msrPmovssetEl0 t) s = .next (s.takeTrap .el2 0x18 (0x36E41C ||| (t.setWidth 25 <<< 5))) ∧
       exec (.mrsPmintensetEl1 t) s = .next (s.takeTrap .el2 0x18 (0x32241D ||| (t.setWidth 25 <<< 5))) ∧
       exec (.msrPmintensetEl1 t) s = .next (s.takeTrap .el2 0x18 (0x32241C ||| (t.setWidth 25 <<< 5))) ∧
       exec (.mrsPmintenclrEl1 t) s = .next (s.takeTrap .el2 0x18 (0x34241D ||| (t.setWidth 25 <<< 5))) ∧
       exec (.msrPmintenclrEl1 t) s = .next (s.takeTrap .el2 0x18 (0x34241C ||| (t.setWidth 25 <<< 5))) ∧
       exec (.mrsPmccfiltrEl0 t) s = .next (s.takeTrap .el2 0x18 (0x3EF81F ||| (t.setWidth 25 <<< 5))) ∧
       exec (.msrPmccfiltrEl0 t) s = .next (s.takeTrap .el2 0x18 (0x3EF81E ||| (t.setWidth 25 <<< 5)))) ∧
    (s.ps.el = .el1 → s.tpm = true → s.counterOpen s.pmselrSel = true →
       exec (.mrsPmxevtyperEl0 t) s = .next (s.takeTrap .el2 0x18 (0x32E41B ||| (t.setWidth 25 <<< 5))) ∧
       exec (.msrPmxevtyperEl0 t) s = .next (s.takeTrap .el2 0x18 (0x32E41A ||| (t.setWidth 25 <<< 5))) ∧
       exec (.mrsPmxevcntrEl0 t) s = .next (s.takeTrap .el2 0x18 (0x34E41B ||| (t.setWidth 25 <<< 5))) ∧
       exec (.msrPmxevcntrEl0 t) s = .next (s.takeTrap .el2 0x18 (0x34E41A ||| (t.setWidth 25 <<< 5)))) ∧
    (s.ps.el = .el1 → s.tpm = true → s.cfg.havePMUv3p4 = true →
       exec (.mrsPmmirEl1 t) s = .next (s.takeTrap .el2 0x18 (0x3C241D ||| (t.setWidth 25 <<< 5)))) ∧
    (s.ps.el = .el1 → s.tpm = true → s.counterOpen n.toNat = true →
       exec (.mrsPmevcntrEl0 n t) s = .next (s.takeTrap .el2 0x18 (0x30F811 ||| ((n &&& 7).setWidth 25 <<< 17) |||
         ((n >>> 3).setWidth 25 <<< 1) ||| (t.setWidth 25 <<< 5))) ∧
       exec (.msrPmevcntrEl0 n t) s = .next (s.takeTrap .el2 0x18 (0x30F810 ||| ((n &&& 7).setWidth 25 <<< 17) |||
         ((n >>> 3).setWidth 25 <<< 1) ||| (t.setWidth 25 <<< 5))) ∧
       exec (.mrsPmevtyperEl0 n t) s = .next (s.takeTrap .el2 0x18 (0x30F819 ||| ((n &&& 7).setWidth 25 <<< 17) |||
         ((n >>> 3).setWidth 25 <<< 1) ||| (t.setWidth 25 <<< 5))) ∧
       exec (.msrPmevtyperEl0 n t) s = .next (s.takeTrap .el2 0x18 (0x30F818 ||| ((n &&& 7).setWidth 25 <<< 17) |||
         ((n >>> 3).setWidth 25 <<< 1) ||| (t.setWidth 25 <<< 5)))) ∧
    (s.ps.el = .el0 → s.tpm = true → s.gateClosed gateEN = false →
       exec (.mrsPmcrEl0 t) s = .next (s.takeTrap .el2 0x18 (0x30E419 ||| (t.setWidth 25 <<< 5))) ∧
       exec (.msrPmcrEl0 t) s = .next (s.takeTrap .el2 0x18 (0x30E418 ||| (t.setWidth 25 <<< 5))) ∧
       exec (.mrsPmcntensetEl0 t) s = .next (s.takeTrap .el2 0x18 (0x32E419 ||| (t.setWidth 25 <<< 5))) ∧
       exec (.msrPmcntensetEl0 t) s = .next (s.takeTrap .el2 0x18 (0x32E418 ||| (t.setWidth 25 <<< 5))) ∧
       exec (.mrsPmcntenclrEl0 t) s = .next (s.takeTrap .el2 0x18 (0x34E419 ||| (t.setWidth 25 <<< 5))) ∧
       exec (.msrPmcntenclrEl0 t) s = .next (s.takeTrap .el2 0x18 (0x34E418 ||| (t.setWidth 25 <<< 5))) ∧
       exec (.mrsPmovsclrEl0 t) s = .next (s.takeTrap .el2 0x18 (0x36E419 ||| (t.setWidth 25 <<< 5))) ∧
       exec (.msrPmovsclrEl0 t) s = .next (s.takeTrap .el2 0x18 (0x36E418 ||| (t.setWidth 25 <<< 5))) ∧
       exec (.mrsPmceid0El0 t) s = .next (s.takeTrap .el2 0x18 (0x3CE419 ||| (t.setWidth 25 <<< 5))) ∧
       exec (.mrsPmceid1El0 t) s = .next (s.takeTrap .el2 0x18 (0x3EE419 ||| (t.setWidth 25 <<< 5))) ∧
       exec (.msrPmccntrEl0 t) s = .next (s.takeTrap .el2 0x18 (0x30E41A ||| (t.setWidth 25 <<< 5))) ∧
       exec (.mrsPmovssetEl0 t) s = .next (s.takeTrap .el2 0x18 (0x36E41D ||| (t.setWidth 25 <<< 5))) ∧
       exec (.msrPmovssetEl0 t) s = .next (s.takeTrap .el2 0x18 (0x36E41C ||| (t.setWidth 25 <<< 5))) ∧
       exec (.mrsPmccfiltrEl0 t) s = .next (s.takeTrap .el2 0x18 (0x3EF81F ||| (t.setWidth 25 <<< 5))) ∧
       exec (.msrPmccfiltrEl0 t) s = .next (s.takeTrap .el2 0x18 (0x3EF81E ||| (t.setWidth 25 <<< 5)))) ∧
    (s.ps.el = .el0 → s.tpm = true → s.gateClosed gateSW = false →
       exec (.msrPmswincEl0 t) s = .next (s.takeTrap .el2 0x18 (0x38E418 ||| (t.setWidth 25 <<< 5)))) ∧
    (s.ps.el = .el0 → s.tpm = true → s.gateClosed gateER = false →
       exec (.mrsPmselrEl0 t) s = .next (s.takeTrap .el2 0x18 (0x3AE419 ||| (t.setWidth 25 <<< 5))) ∧
       exec (.msrPmselrEl0 t) s = .next (s.takeTrap .el2 0x18 (0x3AE418 ||| (t.setWidth 25 <<< 5)))) ∧
    (s.ps.el = .el0 → s.tpm = true → s.gateClosed gateCR = false →
       exec (.mrsPmccntrEl0 t) s = .next (s.takeTrap .el2 0x18 (0x30E41B ||| (t.setWidth 25 <<< 5)))) ∧
    (s.ps.el = .el0 → s.tpm = true → s.gateClosed gateEN = false → s.counterOpen s.pmselrSel = true →
       exec (.mrsPmxevtyperEl0 t) s = .next (s.takeTrap .el2 0x18 (0x32E41B ||| (t.setWidth 25 <<< 5))) ∧
       exec (.msrPmxevtyperEl0 t) s = .next (s.takeTrap .el2 0x18 (0x32E41A ||| (t.setWidth 25 <<< 5))) ∧
       exec (.msrPmxevcntrEl0 t) s = .next (s.takeTrap .el2 0x18 (0x34E41A ||| (t.setWidth 25 <<< 5)))) ∧
    (s.ps.el = .el0 → s.tpm = true → s.gateClosed gateER = false → s.counterOpen s.pmselrSel = true →
       exec (.mrsPmxevcntrEl0 t) s = .next (s.takeTrap .el2 0x18 (0x34E41B ||| (t.setWidth 25 <<< 5)))) ∧
    (s.ps.el = .el0 → s.tpm = true →
       exec (.mrsPmuserenrEl0 t) s = .next (s.takeTrap .el2 0x18 (0x30E41D ||| (t.setWidth 25 <<< 5)))) ∧
    (s.ps.el = .el0 → s.tpm = true → s.gateClosed gateER = false → s.counterOpen n.toNat = true →
       exec (.mrsPmevcntrEl0 n t) s = .next (s.takeTrap .el2 0x18 (0x30F811 ||| ((n &&& 7).setWidth 25 <<< 17) |||
         ((n >>> 3).setWidth 25 <<< 1) ||| (t.setWidth 25 <<< 5)))) ∧
    (s.ps.el = .el0 → s.tpm = true → s.gateClosed gateEN = false → s.counterOpen n.toNat = true →
       exec (.msrPmevcntrEl0 n t) s = .next (s.takeTrap .el2 0x18 (0x30F810 ||| ((n &&& 7).setWidth 25 <<< 17) |||
         ((n >>> 3).setWidth 25 <<< 1) ||| (t.setWidth 25 <<< 5))) ∧
       exec (.mrsPmevtyperEl0 n t) s = .next (s.takeTrap .el2 0x18 (0x30F819 ||| ((n &&& 7).setWidth 25 <<< 17) |||
         ((n >>> 3).setWidth 25 <<< 1) ||| (t.setWidth 25 <<< 5))) ∧
       exec (.msrPmevtyperEl0 n t) s = .next (s.takeTrap .el2 0x18 (0x30F818 ||| ((n &&& 7).setWidth 25 <<< 17) |||
         ((n >>> 3).setWidth 25 <<< 1) ||| (t.setWidth 25 <<< 5)))) ∧
    (s.ps.el = .el1 → s.tpmcr = true →
       exec (.mrsPmcrEl0 t) s = .next (s.takeTrap .el2 0x18 (0x30E419 ||| (t.setWidth 25 <<< 5))) ∧
       exec (.msrPmcrEl0 t) s = .next (s.takeTrap .el2 0x18 (0x30E418 ||| (t.setWidth 25 <<< 5)))) ∧
    (s.ps.el = .el0 → s.tpmcr = true → s.gateClosed gateEN = false →
       exec (.mrsPmcrEl0 t) s = .next (s.takeTrap .el2 0x18 (0x30E419 ||| (t.setWidth 25 <<< 5))) ∧
       exec (.msrPmcrEl0 t) s = .next (s.takeTrap .el2 0x18 (0x30E418 ||| (t.setWidth 25 <<< 5))))) ∧
    (∀ a ∈ s.pmuAccesses t n,
      (a.present = true → s.gateOpen a = true → s.fineTrap a = true →
        exec a.instr s = .next (a.instr.trapped s .el2)) ∧
      (a.present = true → s.gateOpen a = true → s.el2Quiet a = true → s.ps.el ≠ .el3 → s.a64EL3 = true → s.tpm3 =
        true →
        exec a.instr s = .next (a.instr.trapped s .el3)) ∧
      (a.present = false → exec a.instr s = .next s.takeUndefined))

/-- At EL1 with EL2 enabled and using AArch64: with SPE, TPMS = 1 traps every MRS and MSR of the seven profiling
control registers and bit 0 of E2PB = 0 (so also the value 0b00) traps those of PMBLIMITR_EL1, PMBPTR_EL1 and
PMBSR_EL1; with the trace filter, TTRF = 1 traps TRFCR_EL1; all to EL2 with EC 0x18 and the printed ISS, whatever
MDCR_EL3 holds. So does the fine-grained bit of an access at EL1 (bit numbers: notes/assumptions 20; TRFCR_EL1 has one
for the write only). With EL3 using AArch64, MDCR_EL3.NSPB that does not give the buffer to the current Security state
(NSPBTrap) traps the profiling and buffer registers, and MDCR_EL3.TTRF traps TRFCR_EL1, to EL3, at EL2, and at EL1
where no EL2 check traps them. Without the feature, and at EL0, they are Undefined. (R200, R201, R204, R208, R203,
R210, R213, R216, R217, R218, R221, 43_spe_trace.md) -/
def Obligations.ProfilingTraps : Prop :=
  ∀ (s : State) (t : XReg),
    (s.a64EL2 = true → s.ps.el = .el1 →
    (s.cfg.haveSPE = true → s.tpms = true →
       exec (.mrsPmscrEl1 t) s = .next (s.takeTrap .el2 0x18 (0x302413 ||| (t.setWidth 25 <<< 5))) ∧
       exec (.msrPmscrEl1 t) s = .next (s.takeTrap .el2 0x18 (0x302412 ||| (t.setWidth 25 <<< 5))) ∧
       exec (.mrsPmsicrEl1 t) s = .next (s.takeTrap .el2 0x18 (0x342413 ||| (t.setWidth 25 <<< 5))) ∧
       exec (.msrPmsicrEl1 t) s = .next (s.takeTrap .el2 0x18 (0x342412 ||| (t.setWidth 25 <<< 5))) ∧
       exec (.mrsPmsirrEl1 t) s = .next (s.takeTrap .el2 0x18 (0x362413 ||| (t.setWidth 25 <<< 5))) ∧
       exec (.msrPmsirrEl1 t) s = .next (s.takeTrap .el2 0x18 (0x362412 ||| (t.setWidth 25 <<< 5))) ∧
       exec (.mrsPmsfcrEl1 t) s = .next (s.takeTrap .el2 0x18 (0x382413 ||| (t.setWidth 25 <<< 5))) ∧
       exec (.msrPmsfcrEl1 t) s = .next (s.takeTrap .el2 0x18 (0x382412 ||| (t.setWidth 25 <<< 5))) ∧
       exec (.mrsPmsevfrEl1 t) s = .next (s.takeTrap .el2 0x18 (0x3A2413 ||| (t.setWidth 25 <<< 5))) ∧
       exec (.msrPmsevfrEl1 t) s = .next (s.takeTrap .el2 0x18 (0x3A2412 ||| (t.setWidth 25 <<< 5))) ∧
       exec (.mrsPmslatfrEl1 t) s = .next (s.takeTrap .el2 0x18 (0x3C2413 ||| (t.setWidth 25 <<< 5))) ∧
       exec (.msrPmslatfrEl1 t) s = .next (s.takeTrap .el2 0x18 (0x3C2412 ||| (t.setWidth 25 <<< 5))) ∧
       exec (.mrsPmsidrEl1 t) s = .next (s.takeTrap .el2 0x18 (0x3E2413 ||| (t.setWidth 25 <<< 5)))) ∧
    (s.cfg.haveSPE = true → s.e2pb.getLsbD 0 = false →
       exec (.mrsPmblimitrEl1 t) s = .next (s.takeTrap .el2 0x18 (0x302415 ||| (t.setWidth 25 <<< 5))) ∧
       exec (.msrPmblimitrEl1 t) s = .next (s.takeTrap .el2 0x18 (0x302414 ||| (t.setWidth 25 <<< 5))) ∧
       exec (.mrsPmbptrEl1 t) s = .next (s.takeTrap .el2 0x18 (0x322415 ||| (t.setWidth 25 <<< 5))) ∧
       exec (.msrPmbptrEl1 t) s = .next (s.takeTrap .el2 0x18 (0x322414 ||| (t.setWidth 25 <<< 5))) ∧
       exec (.mrsPmbsrEl1 t) s = .next (s.takeTrap .el2 0x18 (0x362415 ||| (t.setWidth 25 <<< 5))) ∧
       exec (.msrPmbsrEl1 t) s = .next (s.takeTrap .el2 0x18 (0x362414 ||| (t.setWidth 25 <<< 5)))) ∧
    (s.cfg.haveTraceFilt = true → s.ttrf = true →
       exec (.mrsTrfcrEl1 t) s = .next (s.takeTrap .el2 0x18 (0x320405 ||| (t.setWidth 25 <<< 5))) ∧
       exec (.msrTrfcrEl1 t) s = .next (s.takeTrap .el2 0x18 (0x320404 ||| (t.setWidth 25 <<< 5))))) ∧
    (s.cfg.haveSPE = true →
      (∀ a ∈ profilingAccesses t ++ bufferAccesses t, s.ps.el = .el1 → s.fgt1 a.read a.bit = true →
        exec a.instr s = .next (a.instr.trapped s .el2)) ∧
      (s.nspbTraps → ∀ a ∈ profilingAccesses t,
        s.ps.el = .el2 ∨ (s.ps.el = .el1 ∧ (s.fgt1 a.read a.bit || (s.a64EL2 && s.tpms)) = false) →
        exec a.instr s = .next (a.instr.trapped s .el3)) ∧
      (s.nspbTraps → ∀ a ∈ bufferAccesses t,
        s.ps.el = .el2 ∨ (s.ps.el = .el1 ∧ (s.fgt1 a.read a.bit || (s.a64EL2 && !s.e2pb.getLsbD 0)) = false) →
        exec a.instr s = .next (a.instr.trapped s .el3))) ∧
    (s.cfg.haveTraceFilt = true →
      (s.ps.el = .el1 → s.fgt1 false 49 = true →
        exec (.msrTrfcrEl1 t) s = .next ((Instr.msrTrfcrEl1 t).trapped s .el2)) ∧
      (s.a64EL3 = true → s.ttrf3 = true → s.ps.el = .el2 ∨ (s.ps.el = .el1 ∧ (s.a64EL2 && s.ttrf) = false) →
        exec (.mrsTrfcrEl1 t) s = .next ((Instr.mrsTrfcrEl1 t).trapped s .el3) ∧
        (s.ps.el = .el2 ∨ s.fgt1 false 49 = false →
          exec (.msrTrfcrEl1 t) s = .next ((Instr.msrTrfcrEl1 t).trapped s .el3)))) ∧
    (s.cfg.haveSPE = false ∨ s.ps.el = .el0 →
      (∀ a ∈ profilingAccesses t ++ bufferAccesses t, exec a.instr s = .next s.takeUndefined) ∧
      exec (.mrsPmbidrEl1 t) s = .next s.takeUndefined) ∧
    (s.cfg.haveTraceFilt = false ∨ s.ps.el = .el0 →
      exec (.mrsTrfcrEl1 t) s = .next s.takeUndefined ∧ exec (.msrTrfcrEl1 t) s = .next s.takeUndefined)

/-- At EL1 with EL2 enabled, under a condition that passes, the AArch32 accesses trap to EL2 with EC 0x05 (MRC, MCR),
0x0C (MRRC) or 0x06 (LDC, STC) and the ISS of the instruction: those of the DCC under TDCC, TDE or TDA, the TDA group
under TDE or TDA, DBGDRAR and DBGDSAR under TDE or TDRA, the OS group under TDE or TDOSA. The trap is an entry to EL2
in whichever Execution state EL2 uses; in AArch32 that is the Hyp Trap exception. At EL0, unless UDCCdis or
MDSCR_EL1.TDCC takes them, DBGDSCRint, DBGDIDR, the transfer registers, DBGDRAR and DBGDSAR trap to EL2 under the same
controls or HCR_EL2.TGE. Where no EL2 check traps it, an access at EL0, EL1 or EL2 traps to EL3 using AArch64 under
MDCR_EL3.TDCC (the DCC), TDA and TDOSA, and to Monitor mode under SDCR.TDCC; the EL2 rows are the model's
(notes/assumptions 33), the entry to Monitor mode too (notes/assumptions 24), SDCR.TDCC is PRESUMED (notes/assumptions
21). A breakpoint or watchpoint register that is not implemented is Undefined (notes/assumptions 32). (R101, R102,
R103, R104, R131, R132, R133, R134, R135, R136, R137, R221) -/
def Obligations.DebugTraps32 : Prop :=
  ∀ (s : State) (c : Cond) (t t2 : RReg) (n : BitVec 4) (p u w : Bool) (rn : RReg) (imm8 : BitVec 8),
    (s.ps.el = .el1 → s.el2Enabled = true → s.condPassed c = true →
    ((s.tdcc || s.tde || s.tda) = true →
       exec (.mrcDbgdccint c t) s = .next (s.takeTrap .el2 0x05 (s.issMcr ⟨14, 0, 0, 2, 0⟩ c t true)) ∧
       exec (.mcrDbgdccint c t) s = .next (s.takeTrap .el2 0x05 (s.issMcr ⟨14, 0, 0, 2, 0⟩ c t false)) ∧
       exec (.mrcDbgdtrrxext c t) s = .next (s.takeTrap .el2 0x05 (s.issMcr ⟨14, 0, 0, 0, 2⟩ c t true)) ∧
       exec (.mcrDbgdtrrxext c t) s = .next (s.takeTrap .el2 0x05 (s.issMcr ⟨14, 0, 0, 0, 2⟩ c t false)) ∧
       exec (.mrcDbgdtrtxext c t) s = .next (s.takeTrap .el2 0x05 (s.issMcr ⟨14, 0, 0, 3, 2⟩ c t true)) ∧
       exec (.mcrDbgdtrtxext c t) s = .next (s.takeTrap .el2 0x05 (s.issMcr ⟨14, 0, 0, 3, 2⟩ c t false)) ∧
       exec (.mrcDbgdscrint c t) s = .next (s.takeTrap .el2 0x05 (s.issMcr ⟨14, 0, 0, 1, 0⟩ c t true))) ∧
    ((s.tdcc || s.tde || s.tda) = true → s.inp.halted = false →
       exec (.mrcDbgdtrrxint c t) s = .next (s.takeTrap .el2 0x05 (s.issMcr ⟨14, 0, 0, 5, 0⟩ c t true)) ∧
       exec (.mcrDbgdtrtxint c t) s = .next (s.takeTrap .el2 0x05 (s.issMcr ⟨14, 0, 0, 5, 0⟩ c t false)) ∧
       exec (.ldcDbgdtrtxint c p u w rn imm8) s = .next (s.takeTrap .el2 0x06 (s.issLdst true c ⟨p, u, w, rn, imm8⟩))
         ∧
       exec (.stcDbgdtrrxint c p u w rn imm8) s = .next (s.takeTrap .el2 0x06 (s.issLdst false c
         ⟨p, u, w, rn, imm8⟩))) ∧
    ((s.tde || s.tda) = true →
       exec (.mrcDbgdscrext c t) s = .next (s.takeTrap .el2 0x05 (s.issMcr ⟨14, 0, 0, 2, 2⟩ c t true)) ∧
       exec (.mcrDbgdscrext c t) s = .next (s.takeTrap .el2 0x05 (s.issMcr ⟨14, 0, 0, 2, 2⟩ c t false)) ∧
       exec (.mrcDbgwfar c t) s = .next (s.takeTrap .el2 0x05 (s.issMcr ⟨14, 0, 0, 6, 0⟩ c t true)) ∧
       exec (.mcrDbgwfar c t) s = .next (s.takeTrap .el2 0x05 (s.issMcr ⟨14, 0, 0, 6, 0⟩ c t false)) ∧
       exec (.mrcDbgvcr c t) s = .next (s.takeTrap .el2 0x05 (s.issMcr ⟨14, 0, 0, 7, 0⟩ c t true)) ∧
       exec (.mcrDbgvcr c t) s = .next (s.takeTrap .el2 0x05 (s.issMcr ⟨14, 0, 0, 7, 0⟩ c t false)) ∧
       exec (.mrcDbgoseccr c t) s = .next (s.takeTrap .el2 0x05 (s.issMcr ⟨14, 0, 0, 6, 2⟩ c t true)) ∧
       exec (.mcrDbgoseccr c t) s = .next (s.takeTrap .el2 0x05 (s.issMcr ⟨14, 0, 0, 6, 2⟩ c t false)) ∧
       exec (.mrcDbgclaimset c t) s = .next (s.takeTrap .el2 0x05 (s.issMcr ⟨14, 0, 7, 8, 6⟩ c t true)) ∧
       exec (.mcrDbgclaimset c t) s = .next (s.takeTrap .el2 0x05 (s.issMcr ⟨14, 0, 7, 8, 6⟩ c t false)) ∧
       exec (.mrcDbgclaimclr c t) s = .next (s.takeTrap .el2 0x05 (s.issMcr ⟨14, 0, 7, 9, 6⟩ c t true)) ∧
       exec (.mcrDbgclaimclr c t) s = .next (s.takeTrap .el2 0x05 (s.issMcr ⟨14, 0, 7, 9, 6⟩ c t false)) ∧
       exec (.mrcDbgauthstatus c t) s = .next (s.takeTrap .el2 0x05 (s.issMcr ⟨14, 0, 7, 14, 6⟩ c t true)) ∧
       exec (.mrcDbgdevid c t) s = .next (s.takeTrap .el2 0x05 (s.issMcr ⟨14, 0, 7, 2, 7⟩ c t true)) ∧
       exec (.mrcDbgdevid1 c t) s = .next (s.takeTrap .el2 0x05 (s.issMcr ⟨14, 0, 7, 1, 7⟩ c t true)) ∧
       exec (.mrcDbgdevid2 c t) s = .next (s.takeTrap .el2 0x05 (s.issMcr ⟨14, 0, 7, 0, 7⟩ c t true)) ∧
       exec (.mrcDbgdidr c t) s = .next (s.takeTrap .el2 0x05 (s.issMcr ⟨14, 0, 0, 0, 0⟩ c t true))) ∧
    ((s.tde || s.tda) = true → n.toNat < s.cfg.breakpoints →
       exec (.mrcDbgbvr c n t) s = .next (s.takeTrap .el2 0x05 (s.issMcr (Enc32.dbgbvr n) c t true)) ∧
       exec (.mcrDbgbvr c n t) s = .next (s.takeTrap .el2 0x05 (s.issMcr (Enc32.dbgbvr n) c t false)) ∧
       exec (.mrcDbgbcr c n t) s = .next (s.takeTrap .el2 0x05 (s.issMcr (Enc32.dbgbcr n) c t true)) ∧
       exec (.mcrDbgbcr c n t) s = .next (s.takeTrap .el2 0x05 (s.issMcr (Enc32.dbgbcr n) c t false)) ∧
       exec (.mrcDbgbxvr c n t) s = .next (s.takeTrap .el2 0x05 (s.issMcr (Enc32.dbgbxvr n) c t true)) ∧
       exec (.mcrDbgbxvr c n t) s = .next (s.takeTrap .el2 0x05 (s.issMcr (Enc32.dbgbxvr n) c t false))) ∧
    ((s.tde || s.tda) = true → n.toNat < s.cfg.watchpoints →
       exec (.mrcDbgwvr c n t) s = .next (s.takeTrap .el2 0x05 (s.issMcr (Enc32.dbgwvr n) c t true)) ∧
       exec (.mcrDbgwvr c n t) s = .next (s.takeTrap .el2 0x05 (s.issMcr (Enc32.dbgwvr n) c t false)) ∧
       exec (.mrcDbgwcr c n t) s = .next (s.takeTrap .el2 0x05 (s.issMcr (Enc32.dbgwcr n) c t true)) ∧
       exec (.mcrDbgwcr c n t) s = .next (s.takeTrap .el2 0x05 (s.issMcr (Enc32.dbgwcr n) c t false))) ∧
    ((s.tde || s.tdra) = true →
       exec (.mrcDbgdrar c t) s = .next (s.takeTrap .el2 0x05 (s.issMcr ⟨14, 0, 1, 0, 0⟩ c t true)) ∧
       exec (.mrcDbgdsar c t) s = .next (s.takeTrap .el2 0x05 (s.issMcr ⟨14, 0, 2, 0, 0⟩ c t true)) ∧
       exec (.mrrcDbgdrar c t t2) s = .next (s.takeTrap .el2 0x0C (s.issMcrr ⟨14, 0, 1⟩ c t t2 true)) ∧
       exec (.mrrcDbgdsar c t t2) s = .next (s.takeTrap .el2 0x0C (s.issMcrr ⟨14, 0, 2⟩ c t t2 true))) ∧
    ((s.tde || s.tdosa) = true →
       exec (.mcrDbgoslar c t) s = .next (s.takeTrap .el2 0x05 (s.issMcr ⟨14, 0, 1, 0, 4⟩ c t false)) ∧
       exec (.mrcDbgoslsr c t) s = .next (s.takeTrap .el2 0x05 (s.issMcr ⟨14, 0, 1, 1, 4⟩ c t true)) ∧
       exec (.mrcDbgprcr c t) s = .next (s.takeTrap .el2 0x05 (s.issMcr ⟨14, 0, 1, 4, 4⟩ c t true)) ∧
       exec (.mcrDbgprcr c t) s = .next (s.takeTrap .el2 0x05 (s.issMcr ⟨14, 0, 1, 4, 4⟩ c t false))) ∧
    ((s.tde || s.tdosa) = true → (s.cfg.haveDoubleLock || s.cfg.tdosaTrapsOsdlr) = true →
       exec (.mrcDbgosdlr c t) s = .next (s.takeTrap .el2 0x05 (s.issMcr ⟨14, 0, 1, 3, 4⟩ c t true)) ∧
       exec (.mcrDbgosdlr c t) s = .next (s.takeTrap .el2 0x05 (s.issMcr ⟨14, 0, 1, 3, 4⟩ c t false)))) ∧
    (s.condPassed c = true →
      let users : List Instr :=
        .mrcDbgdscrint c t :: (if s.inp.halted then [] else dtrAccesses32 c t p u w rn imm8)
      let breaks : List Instr :=
        (if n.toNat < s.cfg.breakpoints then breakAccesses32 c n t else [])
          ++ (if n.toNat < s.cfg.watchpoints then watchAccesses32 c n t else [])
      let quiet (b : Bool) : Prop := s.ps.el = .el2 ∨ (s.ps.el = .el1 ∧ (s.el2Enabled && b) = false)
      (s.ps.el = .el0 → s.udccDis = false → s.el2Enabled = true →
        ((s.tge || s.tdcc || s.tde || s.tda) = true → ∀ i ∈ users, exec i s = .next (i.trapped s .el2)) ∧
        ((s.tge || s.tde || s.tda) = true →
          exec (.mrcDbgdidr c t) s = .next ((Instr.mrcDbgdidr c t).trapped s .el2)) ∧
        ((s.tge || s.tde || s.tdra) = true → ∀ i ∈ romAccesses32 c t t2, exec i s = .next (i.trapped s .el2))) ∧
      (∀ i ∈ dccAccesses32 c t ++ users, quiet (s.tdcc || s.tde || s.tda) →
        (s.a64EL3 = true → (s.tdcc3 || s.tda3) = true → exec i s = .next (i.trapped s .el3)) ∧
        (s.a32EL3 = true → s.sdcrTdcc = true → exec i s = .next (s.takeMode .el3))) ∧
      (∀ i ∈ users, s.ps.el = .el0 → s.udccDis = false →
        (s.el2Enabled && (s.tge || s.tdcc || s.tde || s.tda)) = false →
        (s.a64EL3 = true → (s.tdcc3 || s.tda3) = true → exec i s = .next (i.trapped s .el3)) ∧
        (s.a32EL3 = true → s.sdcrTdcc = true → exec i s = .next (s.takeMode .el3))) ∧
      (s.a64EL3 = true → s.tda3 = true →
        (∀ i ∈ .mrcDbgdidr c t :: tdaAccesses32 c t ++ breaks, quiet (s.tde || s.tda) →
          exec i s = .next (i.trapped s .el3)) ∧
        (s.ps.el = .el0 → s.udccDis = false → (s.el2Enabled && (s.tge || s.tde || s.tda)) = false →
          exec (.mrcDbgdidr c t) s = .next ((Instr.mrcDbgdidr c t).trapped s .el3))) ∧
      (s.a64EL3 = true → s.tdosa3 = true →
        (∀ i ∈ osAccesses32 c t, quiet (s.tde || s.tdosa) → exec i s = .next (i.trapped s .el3)) ∧
        ((s.cfg.haveDoubleLock || s.cfg.mdcrEl3TdosaTrapsOsdlr) = true → ∀ i ∈ osdlrAccesses32 c t,
          quiet ((s.tde || s.tdosa) && (s.cfg.haveDoubleLock || s.cfg.tdosaTrapsOsdlr)) →
          exec i s = .next (i.trapped s .el3))) ∧
      (s.cfg.breakpoints ≤ n.toNat → ∀ i ∈ breakAccesses32 c n t, exec i s = .next s.takeUndefined) ∧
      (s.cfg.watchpoints ≤ n.toNat → ∀ i ∈ watchAccesses32 c n t, exec i s = .next s.takeUndefined))

/-- At EL1 with EL2 enabled, under a condition that passes: with PMUv3 and TPM = 1 every MRC and MCR of a Performance
Monitors register traps to EL2 with EC 0x03 and MRRC and MCRR of PMCCNTR with EC 0x04; PMCR does so under TPMCR; with
the trace filter and in Non-secure state TRFCR does so under TTRF. The ISS is that of the instruction; where EL2 uses
AArch32 the trap is the Hyp Trap exception. HSTR.T9 traps to EL2 the registers that have its branch, at EL1, and at
EL0 where PMUSERENR opens the access; there the fine-grained bits, TPM and TPMCR do so too (a counter register: for a
counter that EL0 may access). MDCR_EL3.TPM traps to EL3 where no earlier check of R168 stops the access, at EL2 too.
TRFCR: HSTR.T1 traps EL1 to EL2; else Undefined in Secure EL1 and Secure EL3; MDCR_EL3.TTRF traps to EL3, SDCR.TTRF to
Monitor mode. A register that does not exist is Undefined. Bit positions: notes/assumptions 20 and 21; the entry to
Monitor mode: notes/assumptions 24. (R150, R151, R168, R167, R208, R209, R221, R234) -/
def Obligations.PmuAndTraceTraps32 : Prop :=
  ∀ (s : State) (c : Cond) (t t2 : RReg) (n : BitVec 5),
    (s.ps.el = .el1 → s.el2Enabled = true → s.condPassed c = true →
    (s.cfg.havePMUv3 = true → s.tpm = true →
       exec (.mrcPmcr c t) s = .next (s.takeTrap .el2 0x03 (s.issMcr ⟨15, 0, 9, 12, 0⟩ c t true)) ∧
       exec (.mcrPmcr c t) s = .next (s.takeTrap .el2 0x03 (s.issMcr ⟨15, 0, 9, 12, 0⟩ c t false)) ∧
       exec (.mrcPmcntenset c t) s = .next (s.takeTrap .el2 0x03 (s.issMcr ⟨15, 0, 9, 12, 1⟩ c t true)) ∧
       exec (.mcrPmcntenset c t) s = .next (s.takeTrap .el2 0x03 (s.issMcr ⟨15, 0, 9, 12, 1⟩ c t false)) ∧
       exec (.mrcPmcntenclr c t) s = .next (s.takeTrap .el2 0x03 (s.issMcr ⟨15, 0, 9, 12, 2⟩ c t true)) ∧
       exec (.mcrPmcntenclr c t) s = .next (s.takeTrap .el2 0x03 (s.issMcr ⟨15, 0, 9, 12, 2⟩ c t false)) ∧
       exec (.mrcPmovsr c t) s = .next (s.takeTrap .el2 0x03 (s.issMcr ⟨15, 0, 9, 12, 3⟩ c t true)) ∧
       exec (.mcrPmovsr c t) s = .next (s.takeTrap .el2 0x03 (s.issMcr ⟨15, 0, 9, 12, 3⟩ c t false)) ∧
       exec (.mcrPmswinc c t) s = .next (s.takeTrap .el2 0x03 (s.issMcr ⟨15, 0, 9, 12, 4⟩ c t false)) ∧
       exec (.mrcPmselr c t) s = .next (s.takeTrap .el2 0x03 (s.issMcr ⟨15, 0, 9, 12, 5⟩ c t true)) ∧
       exec (.mcrPmselr c t) s = .next (s.takeTrap .el2 0x03 (s.issMcr ⟨15, 0, 9, 12, 5⟩ c t false)) ∧
       exec (.mrcPmceid0 c t) s = .next (s.takeTrap .el2 0x03 (s.issMcr ⟨15, 0, 9, 12, 6⟩ c t true)) ∧
       exec (.mrcPmceid1 c t) s = .next (s.takeTrap .el2 0x03 (s.issMcr ⟨15, 0, 9, 12, 7⟩ c t true)) ∧
       exec (.mrcPmccntr c t) s = .next (s.takeTrap .el2 0x03 (s.issMcr ⟨15, 0, 9, 13, 0⟩ c t true)) ∧
       exec (.mcrPmccntr c t) s = .next (s.takeTrap .el2 0x03 (s.issMcr ⟨15, 0, 9, 13, 0⟩ c t false)) ∧
       exec (.mrcPmxevtyper c t) s = .next (s.takeTrap .el2 0x03 (s.issMcr ⟨15, 0, 9, 13, 1⟩ c t true)) ∧
       exec (.mcrPmxevtyper c t) s = .next (s.takeTrap .el2 0x03 (s.issMcr ⟨15, 0, 9, 13, 1⟩ c t false)) ∧
       exec (.mrcPmxevcntr c t) s = .next (s.takeTrap .el2 0x03 (s.issMcr ⟨15, 0, 9, 13, 2⟩ c t true)) ∧
       exec (.mcrPmxevcntr c t) s = .next (s.takeTrap .el2 0x03 (s.issMcr ⟨15, 0, 9, 13, 2⟩ c t false)) ∧
       exec (.mrcPmuserenr c t) s = .next (s.takeTrap .el2 0x03 (s.issMcr ⟨15, 0, 9, 14, 0⟩ c t true)) ∧
       exec (.mcrPmuserenr c t) s = .next (s.takeTrap .el2 0x03 (s.issMcr ⟨15, 0, 9, 14, 0⟩ c t false)) ∧
       exec (.mrcPmintenset c t) s = .next (s.takeTrap .el2 0x03 (s.issMcr ⟨15, 0, 9, 14, 1⟩ c t true)) ∧
       exec (.mcrPmintenset c t) s = .next (s.takeTrap .el2 0x03 (s.issMcr ⟨15, 0, 9, 14, 1⟩ c t false)) ∧
       exec (.mrcPmintenclr c t) s = .next (s.takeTrap .el2 0x03 (s.issMcr ⟨15, 0, 9, 14, 2⟩ c t true)) ∧
       exec (.mcrPmintenclr c t) s = .next (s.takeTrap .el2 0x03 (s.issMcr ⟨15, 0, 9, 14, 2⟩ c t false)) ∧
       exec (.mrcPmovsset c t) s = .next (s.takeTrap .el2 0x03 (s.issMcr ⟨15, 0, 9, 14, 3⟩ c t true)) ∧
       exec (.mcrPmovsset c t) s = .next (s.takeTrap .el2 0x03 (s.issMcr ⟨15, 0, 9, 14, 3⟩ c t false)) ∧
       exec (.mrcPmccfiltr c t) s = .next (s.takeTrap .el2 0x03 (s.issMcr ⟨15, 0, 14, 15, 7⟩ c t true)) ∧
       exec (.mcrPmccfiltr c t) s = .next (s.takeTrap .el2 0x03 (s.issMcr ⟨15, 0, 14, 15, 7⟩ c t false)) ∧
       exec (.mrcPmevcntr c n t) s = .next (s.takeTrap .el2 0x03 (s.issMcr (Enc32.pmevcntr n) c t true)) ∧
       exec (.mcrPmevcntr c n t) s = .next (s.takeTrap .el2 0x03 (s.issMcr (Enc32.pmevcntr n) c t false)) ∧
       exec (.mrcPmevtyper c n t) s = .next (s.takeTrap .el2 0x03 (s.issMcr (Enc32.pmevtyper n) c t true)) ∧
       exec (.mcrPmevtyper c n t) s = .next (s.takeTrap .el2 0x03 (s.issMcr (Enc32.pmevtyper n) c t false)) ∧
       exec (.mrrcPmccntr c t t2) s = .next (s.takeTrap .el2 0x04 (s.issMcrr ⟨15, 0, 9⟩ c t t2 true)) ∧
       exec (.mcrrPmccntr c t t2) s = .next (s.takeTrap .el2 0x04 (s.issMcrr ⟨15, 0, 9⟩ c t t2 false))) ∧
    (s.cfg.havePMUv3 = true → s.tpm = true → s.cfg.havePMUv3p1 = true →
       exec (.mrcPmceid2 c t) s = .next (s.takeTrap .el2 0x03 (s.issMcr ⟨15, 0, 9, 14, 4⟩ c t true)) ∧
       exec (.mrcPmceid3 c t) s = .next (s.takeTrap .el2 0x03 (s.issMcr ⟨15, 0, 9, 14, 5⟩ c t true))) ∧
    (s.cfg.havePMUv3 = true → s.tpm = true → s.cfg.havePMUv3p4 = true →
       exec (.mrcPmmir c t) s = .next (s.takeTrap .el2 0x03 (s.issMcr ⟨15, 0, 9, 14, 6⟩ c t true))) ∧
    (s.cfg.havePMUv3 = true → s.tpmcr = true →
       exec (.mrcPmcr c t) s = .next (s.takeTrap .el2 0x03 (s.issMcr ⟨15, 0, 9, 12, 0⟩ c t true)) ∧
       exec (.mcrPmcr c t) s = .next (s.takeTrap .el2 0x03 (s.issMcr ⟨15, 0, 9, 12, 0⟩ c t false))) ∧
    (s.cfg.haveTraceFilt = true → s.nonSecure = true → s.ttrf = true →
       exec (.mrcTrfcr c t) s = .next (s.takeTrap .el2 0x03 (s.issMcr ⟨15, 0, 1, 2, 1⟩ c t true)) ∧
       exec (.mcrTrfcr c t) s = .next (s.takeTrap .el2 0x03 (s.issMcr ⟨15, 0, 1, 2, 1⟩ c t false)))) ∧
    (s.condPassed c = true →
      (∀ a ∈ s.pmuAccesses32 c t t2 n, a.present = true → s.gateOpen a = true →
        (s.t9Trap a = true ∨ (s.ps.el = .el0 ∧ s.fineTrap a = true) ∨
            (s.ps.el = .el0 ∧ s.counterFree a = true ∧ s.el2Enabled = true ∧ s.tpmTrap a = true) →
          exec a.instr s = .next (a.instr.trapped s .el2)) ∧
        (s.el2Quiet32 a = true → s.ps.el ≠ .el3 → s.a64EL3 = true → s.tpm3 = true →
          exec a.instr s = .next (a.instr.trapped s .el3))) ∧
      (∀ a ∈ s.pmuAccesses32 c t t2 n, a.present = false → exec a.instr s = .next s.takeUndefined) ∧
      (∀ i ∈ [Instr.mrcTrfcr c t, .mcrTrfcr c t],
        (s.cfg.haveTraceFilt = false → exec i s = .next s.takeUndefined) ∧
        (s.cfg.haveTraceFilt = true →
          (s.ps.el = .el1 → (s.el2Enabled && s.hstrT 1) = true → exec i s = .next (i.trapped s .el2)) ∧
          (s.ps.el = .el3 ∨ (s.ps.el = .el1 ∧ (s.el2Enabled && s.hstrT 1) = false) → s.nonSecure = false →
            exec i s = .next s.takeUndefined) ∧
          (s.ps.el = .el2 ∨
              (s.ps.el = .el1 ∧ (s.el2Enabled && (s.hstrT 1 || s.ttrf)) = false ∧ s.nonSecure = true) →
            (s.a64EL3 = true → s.ttrf3 = true → exec i s = .next (i.trapped s .el3)) ∧
            (s.a32EL3 = true → s.sdcrTtrf = true → exec i s = .next (s.takeMode .el3))))))

/-- With PMUv3 and ARMv8.6-FGT and EL2 enabled and using AArch64, at EL1, and at EL0 where PMUSERENR_EL0 opens the
access, with the fine-grained bit not trapping: an access to PMEVCNTR<n>_EL0 or PMEVTYPER<n>_EL0, or to PMXEVCNTR_EL0
or PMXEVTYPER_EL0 with SEL = n (not 31 for the latter), is Undefined when n is not below PMCR_N, whatever TPM is; with
a legal HPMN it traps to EL2 with EC 0x18 when n is at or above HPMN and below PMCR_N. The AArch32 accesses at EL0,
their condition passing and HSTR_EL2.T9 not trapping, do the same, with EC 0x03 (State.pmuAccesses32 names the counter
of each). Bit numbers, that of SEL included: notes/assumptions 20. (R167, R160, R161, R165, R166, R168) -/
def Obligations.HpmnRangeCheck : Prop :=
  ∀ (s : State) (t : XReg) (n : BitVec 5), s.cfg.havePMUv3 = true → s.cfg.haveFGT = true → s.a64EL2 = true →
    ((s.ps.el = .el1 ∧ s.fgt1 true 13 = false) ∨ (s.ps.el = .el0 ∧ s.gateClosed gateEN = false ∧ s.fgt0 true 13 =
      false) → s.pmselrSel ≠ 31 →
       (s.pmcrN ≤ s.pmselrSel → exec (.mrsPmxevtyperEl0 t) s = .next s.takeUndefined) ∧
       (s.hpmnLegal = true → s.hpmn ≤ s.pmselrSel → s.pmselrSel < s.pmcrN →
         exec (.mrsPmxevtyperEl0 t) s = .next (s.takeTrap .el2 0x18 (0x32E41B ||| (t.setWidth 25 <<< 5))))) ∧
    ((s.ps.el = .el1 ∧ s.fgt1 false 13 = false) ∨ (s.ps.el = .el0 ∧ s.gateClosed gateEN = false ∧ s.fgt0 false 13 =
      false) → s.pmselrSel ≠ 31 →
       (s.pmcrN ≤ s.pmselrSel → exec (.msrPmxevtyperEl0 t) s = .next s.takeUndefined) ∧
       (s.hpmnLegal = true → s.hpmn ≤ s.pmselrSel → s.pmselrSel < s.pmcrN →
         exec (.msrPmxevtyperEl0 t) s = .next (s.takeTrap .el2 0x18 (0x32E41A ||| (t.setWidth 25 <<< 5))))) ∧
    ((s.ps.el = .el1 ∧ s.fgt1 true 12 = false) ∨ (s.ps.el = .el0 ∧ s.gateClosed gateER = false ∧ s.fgt0 true 12 =
      false) →
       (s.pmcrN ≤ s.pmselrSel → exec (.mrsPmxevcntrEl0 t) s = .next s.takeUndefined) ∧
       (s.hpmnLegal = true → s.hpmn ≤ s.pmselrSel → s.pmselrSel < s.pmcrN →
         exec (.mrsPmxevcntrEl0 t) s = .next (s.takeTrap .el2 0x18 (0x34E41B ||| (t.setWidth 25 <<< 5))))) ∧
    ((s.ps.el = .el1 ∧ s.fgt1 false 12 = false) ∨ (s.ps.el = .el0 ∧ s.gateClosed gateEN = false ∧ s.fgt0 false 12 =
      false) →
       (s.pmcrN ≤ s.pmselrSel → exec (.msrPmxevcntrEl0 t) s = .next s.takeUndefined) ∧
       (s.hpmnLegal = true → s.hpmn ≤ s.pmselrSel → s.pmselrSel < s.pmcrN →
         exec (.msrPmxevcntrEl0 t) s = .next (s.takeTrap .el2 0x18 (0x34E41A ||| (t.setWidth 25 <<< 5))))) ∧
    ((s.ps.el = .el1 ∧ s.fgt1 true 12 = false) ∨ (s.ps.el = .el0 ∧ s.gateClosed gateER = false ∧ s.fgt0 true 12 =
      false) →
       (s.pmcrN ≤ n.toNat → exec (.mrsPmevcntrEl0 n t) s = .next s.takeUndefined) ∧
       (s.hpmnLegal = true → s.hpmn ≤ n.toNat → n.toNat < s.pmcrN →
         exec (.mrsPmevcntrEl0 n t) s = .next (s.takeTrap .el2 0x18 (0x30F811 ||| ((n &&& 7).setWidth 25 <<< 17) |||
           ((n >>> 3).setWidth 25 <<< 1) ||| (t.setWidth 25 <<< 5))))) ∧
    ((s.ps.el = .el1 ∧ s.fgt1 false 12 = false) ∨ (s.ps.el = .el0 ∧ s.gateClosed gateEN = false ∧ s.fgt0 false 12 =
      false) →
       (s.pmcrN ≤ n.toNat → exec (.msrPmevcntrEl0 n t) s = .next s.takeUndefined) ∧
       (s.hpmnLegal = true → s.hpmn ≤ n.toNat → n.toNat < s.pmcrN →
         exec (.msrPmevcntrEl0 n t) s = .next (s.takeTrap .el2 0x18 (0x30F810 ||| ((n &&& 7).setWidth 25 <<< 17) |||
           ((n >>> 3).setWidth 25 <<< 1) ||| (t.setWidth 25 <<< 5))))) ∧
    ((s.ps.el = .el1 ∧ s.fgt1 true 13 = false) ∨ (s.ps.el = .el0 ∧ s.gateClosed gateEN = false ∧ s.fgt0 true 13 =
      false) →
       (s.pmcrN ≤ n.toNat → exec (.mrsPmevtyperEl0 n t) s = .next s.takeUndefined) ∧
       (s.hpmnLegal = true → s.hpmn ≤ n.toNat → n.toNat < s.pmcrN →
         exec (.mrsPmevtyperEl0 n t) s = .next (s.takeTrap .el2 0x18 (0x30F819 ||| ((n &&& 7).setWidth 25 <<< 17) |||
           ((n >>> 3).setWidth 25 <<< 1) ||| (t.setWidth 25 <<< 5))))) ∧
    ((s.ps.el = .el1 ∧ s.fgt1 false 13 = false) ∨ (s.ps.el = .el0 ∧ s.gateClosed gateEN = false ∧ s.fgt0 false 13 =
      false) →
       (s.pmcrN ≤ n.toNat → exec (.msrPmevtyperEl0 n t) s = .next s.takeUndefined) ∧
       (s.hpmnLegal = true → s.hpmn ≤ n.toNat → n.toNat < s.pmcrN →
         exec (.msrPmevtyperEl0 n t) s = .next (s.takeTrap .el2 0x18 (0x30F818 ||| ((n &&& 7).setWidth 25 <<< 17) |||
           ((n >>> 3).setWidth 25 <<< 1) ||| (t.setWidth 25 <<< 5))))) ∧
    ∀ (c : Cond) (r r2 : RReg), s.condPassed c = true → s.ps.el = .el0 →
      ∀ a ∈ s.pmuAccesses32 c r r2 n, ∀ k, a.counter = some k → s.gateOpen a = true → s.t9Trap a = false →
        s.fineTrap a = false →
        (s.pmcrN ≤ k → exec a.instr s = .next s.takeUndefined) ∧
        (s.hpmnLegal = true → s.hpmn ≤ k → k < s.pmcrN → exec a.instr s = .next (a.instr.trapped s .el2))

/-- Where the range check of R167 is not in force (no ARMv8.6-FGT, EL2 not enabled or using AArch32, EL2 or EL3, or
AArch32 state at EL1), HPMN is legal and no check stops the access, MRS or MSR of PMEVCNTR<n>_EL0, PMEVTYPER<n>_EL0,
PMXEVCNTR_EL0 or PMXEVTYPER_EL0 (SEL not 31), and MRC or MCR of their AArch32 names, for a counter that is not
accessible at the level (R171), is Undefined, or transfers zero (a read) or nothing (a write), or is a NOP, or, for an
implemented counter at EL1 or EL0 with EL2 enabled, traps to EL2, or, through PMSELR_EL0, reaches some counter that is
accessible, or (PMXEVTYPER_EL0) PMCCFILTR_EL0. No counter out of reach is read or written. When the choice is made is
the model's (notes/assumptions 28); the position of SEL is notes/assumptions 20. (R167, R160, R161, R165, R166, R168,
R171, R274) -/
def Obligations.InaccessibleCounterChoices : Prop :=
  ∀ (s : State) (c : Cond) (t : XReg) (r : RReg) (n : BitVec 5), s.hpmnPlain = true →
    ((s.cfg.haveFGT && s.a64EL2 && s.atGuestLevel) = false →
    (s.pmuOpen s.cfg.havePMUv3 gateEN (some (true, 13)) false = true → s.pmselrSel ≠ 31 → s.accessible .accessLimit
      s.pmselrSel = false →
       s.permitted (.mrsPmxevtyperEl0 t) s.pmselrSel ((s.setX t 0).advance) (fun k => (s.setX t (s.typeRead
         k)).advance) true true) ∧
    (s.pmuOpen s.cfg.havePMUv3 gateEN (some (false, 13)) false = true → s.pmselrSel ≠ 31 → s.accessible .accessLimit
      s.pmselrSel = false →
       s.permitted (.msrPmxevtyperEl0 t) s.pmselrSel s.advance (fun k => (s.typeWrite k (s.getX t)).advance) true
         true) ∧
    (s.pmuOpen s.cfg.havePMUv3 gateER (some (true, 12)) false = true → s.accessible .accessLimit s.pmselrSel = false →
       s.permitted (.mrsPmxevcntrEl0 t) s.pmselrSel ((s.setX t 0).advance) (fun k => (s.setX t (vget s.pmu.evcntr
         k)).advance) true false) ∧
    (s.pmuOpen s.cfg.havePMUv3 gateEN (some (false, 12)) false = true → s.accessible .accessLimit s.pmselrSel = false
      →
       s.permitted (.msrPmxevcntrEl0 t) s.pmselrSel s.advance (fun k => (s.counterWrite k (s.getX t)).advance) true
         false) ∧
    (s.pmuOpen s.cfg.havePMUv3 gateER (some (true, 12)) false = true → s.accessible .accessLimit n.toNat = false →
       s.permitted (.mrsPmevcntrEl0 n t) n.toNat ((s.setX t 0).advance) (fun k => (s.setX t (vget s.pmu.evcntr
         k)).advance) false false) ∧
    (s.pmuOpen s.cfg.havePMUv3 gateEN (some (false, 12)) false = true → s.accessible .accessLimit n.toNat = false →
       s.permitted (.msrPmevcntrEl0 n t) n.toNat s.advance (fun k => (s.counterWrite k (s.getX t)).advance) false
         false) ∧
    (s.pmuOpen s.cfg.havePMUv3 gateEN (some (true, 13)) false = true → s.accessible .accessLimit n.toNat = false →
       s.permitted (.mrsPmevtyperEl0 n t) n.toNat ((s.setX t 0).advance) (fun k => (s.setX t (vget s.pmu.evtyper
         k)).advance) false true) ∧
    (s.pmuOpen s.cfg.havePMUv3 gateEN (some (false, 13)) false = true → s.accessible .accessLimit n.toNat = false →
       s.permitted (.msrPmevtyperEl0 n t) n.toNat s.advance (fun k =>
         ({ s with pmu := { s.pmu with evtyper := vset s.pmu.evtyper k (s.getX t) } } : State).advance) false true)) ∧
    ((s.cfg.haveFGT && s.a64EL2 && decide (s.ps.el = .el0)) = false → s.condPassed c = true →
    (s.pmu32Open s.cfg.havePMUv3 gateEN true (some (true, 13)) false = true → s.pmselrSel ≠ 31 → s.accessible
      .accessLimit s.pmselrSel = false →
       s.permitted (.mrcPmxevtyper c r) s.pmselrSel ((s.setR r 0).advance) (fun k => (s.setR r (low32 (s.typeRead
         k))).advance) true true) ∧
    (s.pmu32Open s.cfg.havePMUv3 gateEN true (some (false, 13)) false = true → s.pmselrSel ≠ 31 → s.accessible
      .accessLimit s.pmselrSel = false →
       s.permitted (.mcrPmxevtyper c r) s.pmselrSel s.advance (fun k => (s.typeWrite k (withLow32 (s.typeRead k)
         (s.getR .r15 r))).advance) true true) ∧
    (s.pmu32Open s.cfg.havePMUv3 gateER true (some (true, 12)) false = true → s.accessible .accessLimit s.pmselrSel =
      false →
       s.permitted (.mrcPmxevcntr c r) s.pmselrSel ((s.setR r 0).advance) (fun k => (s.setR r (low32 (vget
         s.pmu.evcntr k))).advance) true false) ∧
    (s.pmu32Open s.cfg.havePMUv3 gateEN true (some (false, 12)) false = true → s.accessible .accessLimit s.pmselrSel
      = false →
       s.permitted (.mcrPmxevcntr c r) s.pmselrSel s.advance (fun k => (s.counterWrite k (withLow32 (vget
         s.pmu.evcntr k) (s.getR .r15 r))).advance) true false) ∧
    (s.pmu32Open s.cfg.havePMUv3 gateER false (some (true, 12)) false = true → s.accessible .accessLimit n.toNat =
      false →
       s.permitted (.mrcPmevcntr c n r) n.toNat ((s.setR r 0).advance) (fun k => (s.setR r (low32 (vget s.pmu.evcntr
         k))).advance) false false) ∧
    (s.pmu32Open s.cfg.havePMUv3 gateEN false (some (false, 12)) false = true → s.accessible .accessLimit n.toNat =
      false →
       s.permitted (.mcrPmevcntr c n r) n.toNat s.advance (fun k => (s.counterWrite k (withLow32 (vget s.pmu.evcntr
         k) (s.getR .r15 r))).advance) false false) ∧
    (s.pmu32Open s.cfg.havePMUv3 gateEN false (some (true, 13)) false = true → s.accessible .accessLimit n.toNat =
      false →
       s.permitted (.mrcPmevtyper c n r) n.toNat ((s.setR r 0).advance) (fun k => (s.setR r (low32 (vget
         s.pmu.evtyper k))).advance) false true) ∧
    (s.pmu32Open s.cfg.havePMUv3 gateEN false (some (false, 13)) false = true → s.accessible .accessLimit n.toNat =
      false →
       s.permitted (.mcrPmevtyper c n r) n.toNat s.advance (fun k =>
         ({ s with pmu := { s.pmu with evtyper := vset s.pmu.evtyper k (withLow32 (vget s.pmu.evtyper k) (s.getR .r15 r)) } } : State).advance) false true))

/-- At EL0 every MRS and MSR of a register of EL1 (and MSR of PMUSERENR_EL0) is Undefined. MDSCR_EL1.TDCC (for
MDCCSR_EL0 and, in Non-debug state, the transfer registers) and a closed enable of PMUSERENR_EL0 (for the Performance
Monitors registers, with PMUv3) trap to EL1, or to EL2 when EL2 is enabled and using AArch64 and HCR_EL2.TGE is 1,
whatever MDCR_EL2 holds. In AArch32 state, the condition passing, the registers of EL1 are Undefined, and UDCCdis (for
DBGDIDR, DBGDSCRint, DBGDRAR, DBGDSAR and, in Non-debug state, the transfer registers) and a closed enable of
PMUSERENR do the same under an EL1 using AArch64; under one using AArch32 they trap to EL2 using AArch64, or are an
Undefined exception routed to Hyp mode, when EL2 is enabled and TGE is 1, and else are Undefined (State.userTrap).
HSTR and DBGDSCRext are the AArch64 registers (notes/assumptions 21); the entry to AArch32 state is notes/assumptions
24. (R106, R110, R114, R134, R137, R163, R168, R169, R221, R226) -/
def Obligations.ControlsAtEl0 : Prop :=
  ∀ (s : State) (t : XReg) (n : BitVec 5),
    (s.ps.el = .el0 →
       exec (.mrsMdccintEl1 t) s = .next s.takeUndefined ∧
       exec (.msrMdccintEl1 t) s = .next s.takeUndefined ∧
       exec (.mrsOsdtrrxEl1 t) s = .next s.takeUndefined ∧
       exec (.msrOsdtrrxEl1 t) s = .next s.takeUndefined ∧
       exec (.mrsOsdtrtxEl1 t) s = .next s.takeUndefined ∧
       exec (.msrOsdtrtxEl1 t) s = .next s.takeUndefined ∧
       exec (.mrsMdscrEl1 t) s = .next s.takeUndefined ∧
       exec (.msrMdscrEl1 t) s = .next s.takeUndefined ∧
       exec (.mrsOseccrEl1 t) s = .next s.takeUndefined ∧
       exec (.msrOseccrEl1 t) s = .next s.takeUndefined ∧
       exec (.mrsDbgclaimsetEl1 t) s = .next s.takeUndefined ∧
       exec (.msrDbgclaimsetEl1 t) s = .next s.takeUndefined ∧
       exec (.mrsDbgclaimclrEl1 t) s = .next s.takeUndefined ∧
       exec (.msrDbgclaimclrEl1 t) s = .next s.takeUndefined ∧
       exec (.mrsDbgauthstatusEl1 t) s = .next s.takeUndefined ∧
       exec (.mrsMdrarEl1 t) s = .next s.takeUndefined ∧
       exec (.msrOslarEl1 t) s = .next s.takeUndefined ∧
       exec (.mrsOslsrEl1 t) s = .next s.takeUndefined ∧
       exec (.mrsOsdlrEl1 t) s = .next s.takeUndefined ∧
       exec (.msrOsdlrEl1 t) s = .next s.takeUndefined ∧
       exec (.mrsDbgprcrEl1 t) s = .next s.takeUndefined ∧
       exec (.msrDbgprcrEl1 t) s = .next s.takeUndefined ∧
       exec (.mrsPmintensetEl1 t) s = .next s.takeUndefined ∧
       exec (.msrPmintensetEl1 t) s = .next s.takeUndefined ∧
       exec (.mrsPmintenclrEl1 t) s = .next s.takeUndefined ∧
       exec (.msrPmintenclrEl1 t) s = .next s.takeUndefined ∧
       exec (.mrsPmmirEl1 t) s = .next s.takeUndefined ∧
       exec (.mrsPmscrEl1 t) s = .next s.takeUndefined ∧
       exec (.msrPmscrEl1 t) s = .next s.takeUndefined ∧
       exec (.mrsPmsicrEl1 t) s = .next s.takeUndefined ∧
       exec (.msrPmsicrEl1 t) s = .next s.takeUndefined ∧
       exec (.mrsPmsirrEl1 t) s = .next s.takeUndefined ∧
       exec (.msrPmsirrEl1 t) s = .next s.takeUndefined ∧
       exec (.mrsPmsfcrEl1 t) s = .next s.takeUndefined ∧
       exec (.msrPmsfcrEl1 t) s = .next s.takeUndefined ∧
       exec (.mrsPmsevfrEl1 t) s = .next s.takeUndefined ∧
       exec (.msrPmsevfrEl1 t) s = .next s.takeUndefined ∧
       exec (.mrsPmslatfrEl1 t) s = .next s.takeUndefined ∧
       exec (.msrPmslatfrEl1 t) s = .next s.takeUndefined ∧
       exec (.mrsPmsidrEl1 t) s = .next s.takeUndefined ∧
       exec (.mrsPmblimitrEl1 t) s = .next s.takeUndefined ∧
       exec (.msrPmblimitrEl1 t) s = .next s.takeUndefined ∧
       exec (.mrsPmbptrEl1 t) s = .next s.takeUndefined ∧
       exec (.msrPmbptrEl1 t) s = .next s.takeUndefined ∧
       exec (.mrsPmbsrEl1 t) s = .next s.takeUndefined ∧
       exec (.msrPmbsrEl1 t) s = .next s.takeUndefined ∧
       exec (.mrsPmbidrEl1 t) s = .next s.takeUndefined ∧
       exec (.mrsTrfcrEl1 t) s = .next s.takeUndefined ∧
       exec (.msrTrfcrEl1 t) s = .next s.takeUndefined ∧
       exec (.msrPmuserenrEl0 t) s = .next s.takeUndefined) ∧
    (s.ps.el = .el0 → s.inp.el1A32 = false → s.udccDis = true →
       exec (.mrsMdccsrEl0 t) s = .next (s.takeTrap (if (s.a64EL2 && s.tge) = true then .el2 else .el1) 0x18
         (0x20C003 ||| (t.setWidth 25 <<< 5)))) ∧
    (s.ps.el = .el0 → s.inp.el1A32 = false → s.udccDis = true → s.inp.halted = false →
       exec (.mrsDbgdtrEl0 t) s = .next (s.takeTrap (if (s.a64EL2 && s.tge) = true then .el2 else .el1) 0x18
         (0x20C009 ||| (t.setWidth 25 <<< 5))) ∧
       exec (.msrDbgdtrEl0 t) s = .next (s.takeTrap (if (s.a64EL2 && s.tge) = true then .el2 else .el1) 0x18
         (0x20C008 ||| (t.setWidth 25 <<< 5))) ∧
       exec (.mrsDbgdtrrxEl0 t) s = .next (s.takeTrap (if (s.a64EL2 && s.tge) = true then .el2 else .el1) 0x18
         (0x20C00B ||| (t.setWidth 25 <<< 5))) ∧
       exec (.msrDbgdtrtxEl0 t) s = .next (s.takeTrap (if (s.a64EL2 && s.tge) = true then .el2 else .el1) 0x18
         (0x20C00A ||| (t.setWidth 25 <<< 5)))) ∧
    (s.cfg.havePMUv3 = true → s.ps.el = .el0 → s.gateClosed gateEN = true →
       exec (.mrsPmcrEl0 t) s = .next (s.takeTrap (if (s.a64EL2 && s.tge) = true then .el2 else .el1) 0x18 (0x30E419
         ||| (t.setWidth 25 <<< 5))) ∧
       exec (.msrPmcrEl0 t) s = .next (s.takeTrap (if (s.a64EL2 && s.tge) = true then .el2 else .el1) 0x18 (0x30E418
         ||| (t.setWidth 25 <<< 5))) ∧
       exec (.mrsPmcntensetEl0 t) s = .next (s.takeTrap (if (s.a64EL2 && s.tge) = true then .el2 else .el1) 0x18
         (0x32E419 ||| (t.setWidth 25 <<< 5))) ∧
       exec (.msrPmcntensetEl0 t) s = .next (s.takeTrap (if (s.a64EL2 && s.tge) = true then .el2 else .el1) 0x18
         (0x32E418 ||| (t.setWidth 25 <<< 5))) ∧
       exec (.mrsPmcntenclrEl0 t) s = .next (s.takeTrap (if (s.a64EL2 && s.tge) = true then .el2 else .el1) 0x18
         (0x34E419 ||| (t.setWidth 25 <<< 5))) ∧
       exec (.msrPmcntenclrEl0 t) s = .next (s.takeTrap (if (s.a64EL2 && s.tge) = true then .el2 else .el1) 0x18
         (0x34E418 ||| (t.setWidth 25 <<< 5))) ∧
       exec (.mrsPmovsclrEl0 t) s = .next (s.takeTrap (if (s.a64EL2 && s.tge) = true then .el2 else .el1) 0x18
         (0x36E419 ||| (t.setWidth 25 <<< 5))) ∧
       exec (.msrPmovsclrEl0 t) s = .next (s.takeTrap (if (s.a64EL2 && s.tge) = true then .el2 else .el1) 0x18
         (0x36E418 ||| (t.setWidth 25 <<< 5))) ∧
       exec (.mrsPmceid0El0 t) s = .next (s.takeTrap (if (s.a64EL2 && s.tge) = true then .el2 else .el1) 0x18
         (0x3CE419 ||| (t.setWidth 25 <<< 5))) ∧
       exec (.mrsPmceid1El0 t) s = .next (s.takeTrap (if (s.a64EL2 && s.tge) = true then .el2 else .el1) 0x18
         (0x3EE419 ||| (t.setWidth 25 <<< 5))) ∧
       exec (.msrPmccntrEl0 t) s = .next (s.takeTrap (if (s.a64EL2 && s.tge) = true then .el2 else .el1) 0x18
         (0x30E41A ||| (t.setWidth 25 <<< 5))) ∧
       exec (.mrsPmxevtyperEl0 t) s = .next (s.takeTrap (if (s.a64EL2 && s.tge) = true then .el2 else .el1) 0x18
         (0x32E41B ||| (t.setWidth 25 <<< 5))) ∧
       exec (.msrPmxevtyperEl0 t) s = .next (s.takeTrap (if (s.a64EL2 && s.tge) = true then .el2 else .el1) 0x18
         (0x32E41A ||| (t.setWidth 25 <<< 5))) ∧
       exec (.msrPmxevcntrEl0 t) s = .next (s.takeTrap (if (s.a64EL2 && s.tge) = true then .el2 else .el1) 0x18
         (0x34E41A ||| (t.setWidth 25 <<< 5))) ∧
       exec (.mrsPmovssetEl0 t) s = .next (s.takeTrap (if (s.a64EL2 && s.tge) = true then .el2 else .el1) 0x18
         (0x36E41D ||| (t.setWidth 25 <<< 5))) ∧
       exec (.msrPmovssetEl0 t) s = .next (s.takeTrap (if (s.a64EL2 && s.tge) = true then .el2 else .el1) 0x18
         (0x36E41C ||| (t.setWidth 25 <<< 5))) ∧
       exec (.mrsPmccfiltrEl0 t) s = .next (s.takeTrap (if (s.a64EL2 && s.tge) = true then .el2 else .el1) 0x18
         (0x3EF81F ||| (t.setWidth 25 <<< 5))) ∧
       exec (.msrPmccfiltrEl0 t) s = .next (s.takeTrap (if (s.a64EL2 && s.tge) = true then .el2 else .el1) 0x18
         (0x3EF81E ||| (t.setWidth 25 <<< 5))) ∧
       exec (.msrPmevcntrEl0 n t) s = .next (s.takeTrap (if (s.a64EL2 && s.tge) = true then .el2 else .el1) 0x18
         (0x30F810 ||| ((n &&& 7).setWidth 25 <<< 17) ||| ((n >>> 3).setWidth 25 <<< 1) ||| (t.setWidth 25 <<< 5))) ∧
       exec (.mrsPmevtyperEl0 n t) s = .next (s.takeTrap (if (s.a64EL2 && s.tge) = true then .el2 else .el1) 0x18
         (0x30F819 ||| ((n &&& 7).setWidth 25 <<< 17) ||| ((n >>> 3).setWidth 25 <<< 1) ||| (t.setWidth 25 <<< 5))) ∧
       exec (.msrPmevtyperEl0 n t) s = .next (s.takeTrap (if (s.a64EL2 && s.tge) = true then .el2 else .el1) 0x18
         (0x30F818 ||| ((n &&& 7).setWidth 25 <<< 17) ||| ((n >>> 3).setWidth 25 <<< 1) ||| (t.setWidth 25 <<< 5)))) ∧
    (s.cfg.havePMUv3 = true → s.ps.el = .el0 → s.gateClosed gateSW = true →
       exec (.msrPmswincEl0 t) s = .next (s.takeTrap (if (s.a64EL2 && s.tge) = true then .el2 else .el1) 0x18
         (0x38E418 ||| (t.setWidth 25 <<< 5)))) ∧
    (s.cfg.havePMUv3 = true → s.ps.el = .el0 → s.gateClosed gateER = true →
       exec (.mrsPmselrEl0 t) s = .next (s.takeTrap (if (s.a64EL2 && s.tge) = true then .el2 else .el1) 0x18
         (0x3AE419 ||| (t.setWidth 25 <<< 5))) ∧
       exec (.msrPmselrEl0 t) s = .next (s.takeTrap (if (s.a64EL2 && s.tge) = true then .el2 else .el1) 0x18
         (0x3AE418 ||| (t.setWidth 25 <<< 5))) ∧
       exec (.mrsPmxevcntrEl0 t) s = .next (s.takeTrap (if (s.a64EL2 && s.tge) = true then .el2 else .el1) 0x18
         (0x34E41B ||| (t.setWidth 25 <<< 5))) ∧
       exec (.mrsPmevcntrEl0 n t) s = .next (s.takeTrap (if (s.a64EL2 && s.tge) = true then .el2 else .el1) 0x18
         (0x30F811 ||| ((n &&& 7).setWidth 25 <<< 17) ||| ((n >>> 3).setWidth 25 <<< 1) ||| (t.setWidth 25 <<< 5)))) ∧
    (s.cfg.havePMUv3 = true → s.ps.el = .el0 → s.gateClosed gateCR = true →
       exec (.mrsPmccntrEl0 t) s = .next (s.takeTrap (if (s.a64EL2 && s.tge) = true then .el2 else .el1) 0x18
         (0x30E41B ||| (t.setWidth 25 <<< 5)))) ∧
    (s.ps.el = .el0 → ∀ m : BitVec 4, ∀ a ∈ breakAccesses m t ++ watchAccesses m t,
      exec a.instr s = .next s.takeUndefined) ∧
    (∀ (c : Cond) (r r2 : RReg) (m : BitVec 4) (p u w : Bool) (rn : RReg) (imm8 : BitVec 8),
      s.ps.el = .el0 → s.condPassed c = true →
      (∀ i ∈ tdaAccesses32 c r ++ breakAccesses32 c m r ++ watchAccesses32 c m r ++ dccAccesses32 c r
          ++ osAccesses32 c r ++ osdlrAccesses32 c r ++ [.mrcTrfcr c r, .mcrTrfcr c r],
        exec i s = .next s.takeUndefined) ∧
      (s.udccDis = true → ∀ i ∈ .mrcDbgdidr c r :: .mrcDbgdscrint c r :: romAccesses32 c r r2
          ++ (if s.inp.halted then [] else dtrAccesses32 c r p u w rn imm8),
        exec i s = .next (s.userTrap i)) ∧
      (∀ a ∈ s.pmuAccesses32 c r r2 n,
        (a.gate = .undefinedAtEl0 → exec a.instr s = .next s.takeUndefined) ∧
        (a.present = true → s.gateClosed a.gate = true → exec a.instr s = .next (s.userTrap a.instr))))

/-- For every instruction of the debug group, at EL2, at EL3, or at any level while EL2 is not enabled, two states
that differ only in MDCR_EL2 give next states that differ only in MDCR_EL2: no field of it takes part. (R32, R100,
R220, R221) -/
def Obligations.MdcrHasNoEffectAbove : Prop :=
  ∀ (i : Instr) (s : State) (v : Word), i.group = .debug → (s.ps.el = .el2 ∨ s.ps.el = .el3 ∨ s.el2Enabled = false) →
    ∃ t, exec i s = .next t ∧ exec i (s.withMdcr v) = .next (t.withMdcr v)

/-- An entry to EL1, EL2 or EL3, using AArch64, not below the current level: SPSR takes PSTATE, ELR the pc, ESR the
syndrome; PSTATE.EL is the target, nRW 0, SP 1, D, A, I, F 1, SS and IL 0, the flags as they were; the pc is VBAR with
bits [10:0] zero plus 0x200 or 0 (same level, by the saved SP), 0x400 or 0x600 (from a lower level, by the Execution
state of the level below the target). The exception registers of the other levels, VBAR, the general registers, every
other System register and memory are unchanged. For EL3 the level below is EL2 where it is enabled; FAR_EL2 and
HPFAR_EL2 are free after an entry to EL2. PSTATE of AArch64 state is saved with N at bit 31, Z 30, C 29, V 28, TCO 25,
DIT 24, UAO 23, PAN 22, SS 21, IL 20, SSBS 12, BTYPE 11:10, D 9, A 8, I 7, F 6, M[4] = 0, M[3:2] the level, M[1] = 0,
M[0] SP, and every other bit 0. The model's choices: that PSTATE.T and PSTATE.IT, of which R241 does not speak, become
0 on such an entry, and which level is below EL3 (notes/assumptions 23). (R241, R222, R43, R36) -/
def Obligations.ExceptionEntry : Prop :=
  ∀ (s : State) (T : EL) (esr : Word), T ≠ .el0 → s.ps.el.num ≤ T.num → s.elA32 T = false →
    ∃ u, s.take T esr = u ∧ u = { s with pc := u.pc, ps := u.ps, exc := u.exc } ∧
      u.bank T = { esr := esr, elr := s.pc, spsr := s.ps.toSpsr, vbar := (s.bank T).vbar } ∧
      (∀ T' : EL, T' ≠ .el0 → T' ≠ T → u.bank T' = s.bank T') ∧
      (T ≠ .el2 → u.exc.farEl2 = s.exc.farEl2 ∧ u.exc.hpfarEl2 = s.exc.hpfarEl2) ∧
      u.ps = { s.ps with el := T, nRW := false, sp := true, d := true, a := true, i := true, f := true, ss := false
                         il := false, thumb := false, it := 0 } ∧
      u.pc = ((s.bank T).vbar &&& ~~~0x7FF#64) +
        (if s.ps.el = T then (if s.ps.sp then 0x200 else 0)
         else if (match T with
           | .el0 => false
           | .el1 => s.ps.nRW
           | .el2 => s.inp.el1A32
           | .el3 => if s.el2Enabled then s.elA32 .el2 else s.inp.el1A32) then 0x600 else 0x400) ∧
      (s.ps.nRW = false →
        s.ps.toSpsr.toNat = s.ps.n.toNat * 2 ^ 31 + s.ps.z.toNat * 2 ^ 30 + s.ps.c.toNat * 2 ^ 29 + s.ps.v.toNat * 2
          ^ 28
          + s.ps.tco.toNat * 2 ^ 25 + s.ps.dit.toNat * 2 ^ 24 + s.ps.uao.toNat * 2 ^ 23 + s.ps.pan.toNat * 2 ^ 22
          + s.ps.ss.toNat * 2 ^ 21 + s.ps.il.toNat * 2 ^ 20 + s.ps.ssbs.toNat * 2 ^ 12 + s.ps.btype.toNat * 2 ^ 10
          + s.ps.d.toNat * 2 ^ 9 + s.ps.a.toNat * 2 ^ 8 + s.ps.i.toNat * 2 ^ 7 + s.ps.f.toNat * 2 ^ 6
          + s.ps.el.num * 4 + s.ps.sp.toNat)

/-- Undefined is taken with syndrome 0x02000000 (EC 0, IL 1, ISS 0), from EL0 to EL2 when EL2 is enabled and
HCR_EL2.TGE is 1, else to EL1, and from any other level to that level; where the target uses AArch64 its ESR holds the
syndrome and its ELR the pc of the instruction. (An AArch32 target: notes/assumptions 24.) (R226, R222) -/
def Obligations.UndefinedException : Prop :=
  ∀ s : State, ∃ T u, s.takeUndefined = u ∧
    T = (if s.ps.el = .el0 then (if s.el2Enabled = true ∧ s.ctl.hcrEl2.getLsbD 27 = true then .el2 else .el1)
         else s.ps.el) ∧
    u = s.take T 0x02000000 ∧ u.ps.el = T ∧
    (s.elA32 T = false → (u.bank T).esr = 0x02000000 ∧ (u.bank T).elr = s.pc ∧ u.ps.nRW = false)

/-- A debug exception generated at EL0 or EL1 is taken to EL2 when EL2 is enabled and TDE is effectively 1
(MDCR_EL2.TDE or HCR_EL2.TGE), else to EL1, with the syndrome of its class: Breakpoint 0x30, Software Step 0x32,
Watchpoint 0x34 and, at EL1 from EL1, 0x31, 0x33, 0x35; BKPT 0x38 with its comment and IL by its width; Vector Catch
0x3A; BRK 0x3C with its immediate. That the event comes in a step of its own is the model's (notes/assumptions 26).
(R105, R235, R223, R224) -/
def Obligations.DebugExceptionRouting : Prop :=
  ∀ (s : State) (rest : List Event) (isv ex cm wnr wide : Bool) (k : BitVec 16),
    (s.ps.el = .el0 ∨ s.ps.el = .el1 → s.el2Enabled = true → (s.ctl.mdcrEl2.getLsbD 8 || s.ctl.hcrEl2.getLsbD 27) =
      true →
       (s.events = .debugException (.breakpoint) :: rest →
         step s = .next (({ s with events := rest } : State).take .el2 (0xC2000022)).tick) ∧
       (s.events = .debugException (.softwareStep isv ex) :: rest →
         step s = .next (({ s with events := rest } : State).take .el2 (0xCA000022 ||| (if isv then 0x1000000 else 0)
           ||| (if isv && ex then 0x40 else 0))).tick) ∧
       (s.events = .debugException (.watchpoint false cm wnr) :: rest →
         step s = .next (({ s with events := rest } : State).take .el2 (0xD2000022 ||| (if cm then 0x100 else 0) |||
           (if wnr then 0x40 else 0))).tick) ∧
       (s.events = .debugException (.bkpt k wide) :: rest →
         step s = .next (({ s with events := rest } : State).take .el2 (0xE0000000 ||| (if wide then 0x2000000 else
           0) ||| k.setWidth 64)).tick) ∧
       (s.events = .debugException (.vectorCatch) :: rest →
         step s = .next (({ s with events := rest } : State).take .el2 (0xEA000022)).tick) ∧
       (s.events = .debugException (.brk k) :: rest →
         step s = .next (({ s with events := rest } : State).take .el2 (0xF2000000 ||| k.setWidth 64)).tick)) ∧
    (s.ps.el = .el0 → ¬(s.el2Enabled = true ∧ s.effTde = true) →
       (s.events = .debugException (.breakpoint) :: rest →
         step s = .next (({ s with events := rest } : State).take .el1 (0xC2000022)).tick) ∧
       (s.events = .debugException (.softwareStep isv ex) :: rest →
         step s = .next (({ s with events := rest } : State).take .el1 (0xCA000022 ||| (if isv then 0x1000000 else 0)
           ||| (if isv && ex then 0x40 else 0))).tick) ∧
       (s.events = .debugException (.watchpoint false cm wnr) :: rest →
         step s = .next (({ s with events := rest } : State).take .el1 (0xD2000022 ||| (if cm then 0x100 else 0) |||
           (if wnr then 0x40 else 0))).tick) ∧
       (s.events = .debugException (.bkpt k wide) :: rest →
         step s = .next (({ s with events := rest } : State).take .el1 (0xE0000000 ||| (if wide then 0x2000000 else
           0) ||| k.setWidth 64)).tick) ∧
       (s.events = .debugException (.vectorCatch) :: rest →
         step s = .next (({ s with events := rest } : State).take .el1 (0xEA000022)).tick) ∧
       (s.events = .debugException (.brk k) :: rest →
         step s = .next (({ s with events := rest } : State).take .el1 (0xF2000000 ||| k.setWidth 64)).tick)) ∧
    (s.ps.el = .el1 → ¬(s.el2Enabled = true ∧ s.effTde = true) →
       (s.events = .debugException (.breakpoint) :: rest →
         step s = .next (({ s with events := rest } : State).take .el1 (0xC6000022)).tick) ∧
       (s.events = .debugException (.softwareStep isv ex) :: rest →
         step s = .next (({ s with events := rest } : State).take .el1 (0xCE000022 ||| (if isv then 0x1000000 else 0)
           ||| (if isv && ex then 0x40 else 0))).tick) ∧
       (s.events = .debugException (.watchpoint false cm wnr) :: rest →
         step s = .next (({ s with events := rest } : State).take .el1 (0xD6000022 ||| (if cm then 0x100 else 0) |||
           (if wnr then 0x40 else 0))).tick) ∧
       (s.events = .debugException (.bkpt k wide) :: rest →
         step s = .next (({ s with events := rest } : State).take .el1 (0xE0000000 ||| (if wide then 0x2000000 else
           0) ||| k.setWidth 64)).tick) ∧
       (s.events = .debugException (.vectorCatch) :: rest →
         step s = .next (({ s with events := rest } : State).take .el1 (0xEA000022)).tick) ∧
       (s.events = .debugException (.brk k) :: rest →
         step s = .next (({ s with events := rest } : State).take .el1 (0xF2000000 ||| k.setWidth 64)).tick))

/-- An exception return from EL1, EL2 or EL3 in AArch64 state whose SPSR has M[1] = 0, no EL0 with M[0] set, and a
level that is implemented and not above the current one (EL2: enabled, and not AArch32 where R38 says it is using
AArch64) sets the pc to ELR and PSTATE to SPSR; ESR, ELR and SPSR of the level become free values with bits [63:32] of
ESR and SPSR zero, VBAR and the exception registers of the other levels and all other state stay. The model's choices:
that it is an input (notes/assumptions 26), that the level returned to is using the Execution state of M[4] from then
on, and that any other return is refused (notes/assumptions 25); what a return to AArch32 state does to TCO, SSBS and
BTYPE is notes/assumptions 23. (R242, R36, R43, R220, R38) -/
def Obligations.ExceptionReturn : Prop :=
  ∀ (s : State) (rest : List Event) (b : ExcBank), s.events = .exceptionReturn :: rest → s.ps.el ≠ .el0 → s.ps.nRW =
    false →
    b = s.bank s.ps.el →
    let m := (b.spsr.extractLsb' 2 2).toNat
    if b.spsr.getLsbD 1 = false ∧ ¬(m = 0 ∧ b.spsr.getLsbD 0 = true) ∧ m ≤ s.ps.el.num ∧
        (m = 2 → s.el2Enabled = true ∧ (b.spsr.getLsbD 4 = true → s.secureEL2 = false)) ∧
        (m = 3 → s.cfg.haveEL3 = true) then
      ∃ u, step s = .next u ∧
        u = { s with
              pc := b.elr, ps := u.ps, exc := u.exc, inp := s.inp.setA32 u.ps.el u.ps.nRW, events := rest
              draws := s.draws + 1 } ∧
        (∀ T : EL, T ≠ .el0 → T ≠ s.ps.el → u.bank T = s.bank T) ∧ (u.bank s.ps.el).vbar = b.vbar ∧
        (u.bank s.ps.el).esr.extractLsb' 32 32 = 0 ∧ (u.bank s.ps.el).spsr.extractLsb' 32 32 = 0 ∧
        u.exc.farEl2 = s.exc.farEl2 ∧ u.exc.hpfarEl2 = s.exc.hpfarEl2 ∧
        u.ps.n = b.spsr.getLsbD 31 ∧ u.ps.z = b.spsr.getLsbD 30 ∧ u.ps.c = b.spsr.getLsbD 29 ∧
        u.ps.v = b.spsr.getLsbD 28 ∧ u.ps.dit = b.spsr.getLsbD 24 ∧ u.ps.uao = b.spsr.getLsbD 23 ∧
        u.ps.pan = b.spsr.getLsbD 22 ∧ u.ps.ss = b.spsr.getLsbD 21 ∧ u.ps.il = b.spsr.getLsbD 20 ∧
        u.ps.d = b.spsr.getLsbD 9 ∧ u.ps.a = b.spsr.getLsbD 8 ∧ u.ps.i = b.spsr.getLsbD 7 ∧
        u.ps.f = b.spsr.getLsbD 6 ∧ u.ps.nRW = b.spsr.getLsbD 4 ∧ u.ps.el.num = m ∧ u.ps.sp = b.spsr.getLsbD 0 ∧
        (b.spsr.getLsbD 4 = false →
          u.ps.tco = b.spsr.getLsbD 25 ∧ u.ps.ssbs = b.spsr.getLsbD 12 ∧ u.ps.btype = b.spsr.extractLsb' 10 2) ∧
        (u.ps.el ≠ .el0 → u.elA32 u.ps.el = u.ps.nRW)
    else step s = .refused (.illegalExceptionReturn b.spsr)

/-- After an entry from AArch64 state to a level using AArch64, an exception return from that level gives back PSTATE,
the pc, the general registers and memory. (T and IT are state of AArch32 only, so they are zero here.) (R241, R242) -/
def Obligations.ReturnUndoesEntry : Prop :=
  ∀ (s : State) (T : EL) (esr : Word), T ≠ .el0 → s.elA32 T = false → s.ps.nRW = false → s.ps.thumb = false → s.ps.it
    = 0 →
    ∃ u, (s.take T esr).returnFrom T = u ∧ u.ps = s.ps ∧ u.pc = s.pc ∧ u.x = s.x ∧ u.mem = s.mem ∧ u.ctl = s.ctl

/-- With EL2: a Cold reset sets MTPME where the field exists and a Warm reset keeps it; HPMN is PMCR_N after every
reset with PMUv3; HCCD and HPMD are 0 and no bit outside the implemented fields is set; where the PE resets into
AArch32, HLP, TTRF, TDRA, TDOSA, TDA, TDE, TPM and TPMCR are 0 too. Where MTPME does not exist, or without PMUv3 the
HPMN field, the bits are 0. That a reset is an input (notes/assumptions 26) and what it keeps (notes/assumptions 40)
are the model's choice. (R260, R261, R262, R263, R267) -/
def Obligations.ResetOfMdcr : Prop :=
  ∀ (s : State) (rest : List Event) (cold : Bool), s.events = (if cold then .coldReset else .warmReset) :: rest →
    s.cfg.haveEL2 = true →
    ∃ u, step s = .next u ∧
      (s.cfg.haveMTPMU = true → s.cfg.haveEL3 = false →
        u.ctl.mdcrEl2.getLsbD 28 = (if cold then true else s.ctl.mdcrEl2.getLsbD 28)) ∧
      (¬(s.cfg.haveMTPMU = true ∧ s.cfg.haveEL3 = false) → u.ctl.mdcrEl2.getLsbD 28 = false) ∧
      u.ctl.mdcrEl2.extractLsb' 0 5 = (if s.cfg.havePMUv3 then s.cfg.pmcrN else 0) ∧
      u.hccd = false ∧ u.hpmd = false ∧ u.ctl.mdcrEl2 &&& ~~~implMask s.cfg = 0 ∧
      (s.cfg.resetIntoAArch64 = false →
        u.hlp = false ∧ u.ttrf = false ∧ u.tdra = false ∧ u.tdosa = false ∧ u.tda = false ∧ u.tde = false ∧
        u.tpm = false ∧ u.tpmcr = false)

/-- After either reset the level is the highest implemented one, using AArch64 or AArch32 as the parameter says, the
pc is the reset address, the PE is in Non-debug state, PMCR_EL0.E is 0 and its N is PMCR_N, HDFGRTR_EL2 and
HDFGWTR_EL2 are 0 where the PE resets into EL2, OSLSR_EL1.OSLK is 1 after a Cold reset and unchanged by a Warm one,
and memory is as it was. That memory stays and that a reset is an input are the model's (notes/assumptions 26 and 40).
(R260, R268) -/
def Obligations.ResetOfTheRest : Prop :=
  ∀ (s : State) (rest : List Event) (cold : Bool), s.events = (if cold then .coldReset else .warmReset) :: rest →
    ∃ u, step s = .next u ∧
      u.ps.el = (if s.cfg.haveEL3 then .el3 else if s.cfg.haveEL2 then .el2 else .el1) ∧
      u.ps.nRW = !s.cfg.resetIntoAArch64 ∧ u.elA32 u.ps.el = u.ps.nRW ∧ u.pc = s.cfg.resetPc ∧ u.inp.halted = false ∧
      u.pmu.pmcr.getLsbD 0 = false ∧ u.pmu.pmcr.extractLsb' 11 5 = s.cfg.pmcrN ∧
      (s.cfg.haveEL3 = false → s.cfg.haveEL2 = true → u.ctl.hdfgrtrEl2 = 0 ∧ u.ctl.hdfgwtrEl2 = 0) ∧
      u.dbg.oslsr.getLsbD 1 = (if cold then true else s.dbg.oslsr.getLsbD 1) ∧ u.mem = s.mem ∧ u.cfg = s.cfg

/-- With memory in canonical form, a load of up to 8 bytes in either byte order right after a store of as many bytes
to the same address gives the low bytes of the stored value, the store keeps the canonical form, and every byte
outside the stored ones reads as before. The flat memory is the model's (notes/assumptions 5 and 7). (20_memory.md,
R54) -/
def Obligations.LoadAfterStore : Prop :=
  ∀ (s : State) (big : Bool) (a : Word) (k v : Nat), Memory.wf s.mem = true → k ≤ 8 →
    (s.store big a k v).load big a k = v % 2 ^ (8 * k) ∧ Memory.wf (s.store big a k v).mem = true ∧
    s.sameMemoryBut (s.store big a k v) a k

/-- There is a number N of accessible counters, not above PMCR_N: PMCR_N at EL2, at EL3 and while EL2 is not enabled,
and at EL1 and EL0 with EL2 enabled HPMN where it is legal (some number up to PMCR_N where it is not); the mask of the
bit-mask registers has exactly bits [N-1:0] and bit 31. A read of PMCNTENSET_EL0 that is performed gives the stored
bits under the mask, and a write of PMCNTENCLR_EL0 clears the bits that are set in Xt and in the mask and no other.
(R171, R172, R173) -/
def Obligations.VisibleCounterBits : Prop :=
  ∀ s : State, ∃ N, N ≤ s.pmcrN ∧
    (s.ps.el = .el2 ∨ s.ps.el = .el3 ∨ s.el2Enabled = false → N = s.pmcrN) ∧
    (s.el2Enabled = true → s.ps.el = .el0 ∨ s.ps.el = .el1 → s.hpmnLegal = true → N = s.hpmn) ∧
    (∀ j, s.visibleMask.getLsbD j = true ↔ j < N ∨ j = 31) ∧
    (∀ (t : XReg) (j : Nat), t ≠ 31 → s.pmuOpen s.cfg.havePMUv3 gateEN (some (true, 16)) false = true →
      ∃ u, exec (.mrsPmcntensetEl0 t) s = .next u ∧
        ((u.getX t).getLsbD j = true ↔ s.pmu.pmcnten.getLsbD j = true ∧ (j < N ∨ j = 31))) ∧
    (∀ (t : XReg) (j : Nat), s.pmuOpen s.cfg.havePMUv3 gateEN (some (false, 16)) false = true →
      ∃ u, exec (.msrPmcntenclrEl0 t) s = .next u ∧
        (u.pmu.pmcnten.getLsbD j = true ↔
          s.pmu.pmcnten.getLsbD j = true ∧ ¬((s.getX t).getLsbD j = true ∧ (j < N ∨ j = 31))))

/-- An occurrence of the event of counter n on this PE or on another PE with the same affinity at level 1 and above,
HPMN being legal: with P = HPMN the counter counts exactly when n is below PMCR_N, the event is this PE's or the
Effective MT bit of the counter is 1, its enable bit is 1, PMCR_EL0.E (n below P) or HPME (else) is 1, and not (n
below P, at EL2, HPMD = 1, and ARMv8.2-Debug or no external enable). A counter that counts takes old + 1 in 64 bits
with ARMv8.5-PMU, else 32, its flag is set when the increment carries out of bit 31 or, with ARMv8.5-PMU and LP (n
below P) or HLP (else), of bit 63, and nothing else of the counters changes; one that does not leaves all of them. The
Effective MT bit of a counter without ARMv8.6-MTPMU is 0; with it and without EL3 it is 0 when MTPME is 0, or when the
parameter says so and another PE of the affinity group has MTPMU disabled, else the stored bit 25 of the type register
(its position: notes/assumptions 20). The model's choices: that events come as inputs, and that such an input has
passed the event filter, MDCR_EL3.SPME and Debug state, so that only the predicates of R175 to R177 and MT decide;
that the controls of this PE, at its own level, decide for another PE's event too (notes/assumptions 26). (R175, R176,
R177, R180, R277, R45) -/
def Obligations.CounterEvents : Prop :=
  ∀ (s : State) (rest : List Event) (n : Nat) (source : EventSource), s.events = .counterEvent n source :: rest →
    s.cfg.haveEL2 = true → s.hpmnLegal = true →
    (s.cfg.haveMTPMU = false → s.effMt n = false) ∧
    (s.cfg.haveMTPMU = true → s.cfg.haveEL3 = false →
      s.effMt n = (s.ctl.mdcrEl2.getLsbD 28 && !(s.cfg.mtpmeAffinityDisable && s.inp.siblingMtpmuOff)
        && (vget s.pmu.evtyper n).getLsbD 25)) ∧
    ∃ u, step s = .next u ∧
      let enabled := s.pmu.pmcnten.getLsbD n && (if n < s.hpmn then s.pmu.pmcr.getLsbD 0 else s.hpme)
      let held := decide (n < s.hpmn) && decide (s.ps.el = .el2) && s.hpmd && (s.cfg.haveDebugv8p2 ||
        !s.inp.extDebugEnabled)
      let old := vget s.pmu.evcntr n
      let long := s.cfg.havePMUv3p5 && (if n < s.hpmn then s.pmu.pmcr.getLsbD 7 else s.hlp)
      if n < s.pmcrN ∧ (source = .thisPE ∨ s.effMt n = true) ∧ enabled = true ∧ held = false then
        vget u.pmu.evcntr n = (if s.cfg.havePMUv3p5 then old + 1 else (old + 1) &&& 0xFFFFFFFF) ∧
        (∀ k, k ≠ n → vget u.pmu.evcntr k = vget s.pmu.evcntr k) ∧
        (∀ j, j ≠ n → u.pmu.pmovs.getLsbD j = s.pmu.pmovs.getLsbD j) ∧
        u.pmu.pmovs.getLsbD n = (s.pmu.pmovs.getLsbD n ||
          (if long then old == 0xFFFFFFFFFFFFFFFF else old.extractLsb' 0 32 == 0xFFFFFFFF))
      else u.pmu = s.pmu

/-- One cycle adds 1 to PMCCNTR_EL0 exactly when bit 31 of the enables and PMCR_EL0.E are 1 and, at EL2 (EL2
implemented), HCCD is 0 and not (PMCR_EL0.DP and HPMD are 1, with ARMv8.2-Debug or no external enable); otherwise
PMCCNTR_EL0 and the flags are unchanged. The event counters never change with a cycle. When the overflow flag is set
is partly free (notes/assumptions 46), and cycles come as inputs, which have passed the filter of PMCCFILTR_EL0,
MDCR_EL3.SPME and Debug state, the model's choice (notes/assumptions 26). (R175, R177, R178) -/
def Obligations.CycleCounterControls : Prop :=
  ∀ (s : State) (rest : List Event), s.events = .cycle :: rest →
    ∃ u, step s = .next u ∧ u.pmu.evcntr = s.pmu.evcntr ∧ u.pmu.pmcnten = s.pmu.pmcnten ∧
      let held := decide (s.ps.el = .el2) && s.cfg.haveEL2 &&
        (s.hccd || (s.pmcrDp && s.hpmd && (s.cfg.haveDebugv8p2 || !s.inp.extDebugEnabled)))
      if s.pmu.pmcnten.getLsbD 31 = true ∧ s.pmu.pmcr.getLsbD 0 = true ∧ held = false then
        u.pmu.pmccntr = s.pmu.pmccntr + 1
      else u.pmu = s.pmu

/-- With HPMN legal or irrelevant, a read of PMCR_EL0 that is performed gives N = HPMN at EL1 and EL0 with EL2
enabled, else PMCR_N, P and C reading as they are stored (zero under the invariant). A write with P = 1 zeroes exactly
the implemented counters accessible at the level, with P = 0 none; with C = 1 it zeroes PMCCNTR_EL0, with C = 0 not;
the overflow flags never change, and N stays PMCR_N. (R179, R171, R41) -/
def Obligations.PmcrFieldsAndHpmn : Prop :=
  ∀ (s : State) (t : XReg), s.hpmnPlain = true →
    (t ≠ 31 → s.pmuOpen s.cfg.havePMUv3 gateEN none true = true →
      ∃ u, exec (.mrsPmcrEl0 t) s = .next u ∧
        ((u.getX t).extractLsb' 11 5).toNat =
          (if s.cfg.haveEL2 = true ∧ s.pmcrN ≠ 0 ∧ s.el2Enabled = true ∧ (s.ps.el = .el0 ∨ s.ps.el = .el1) then s.hpmn
           else s.pmcrN) ∧
        u.getX t &&& ~~~0xF800#64 = s.pmu.pmcr &&& ~~~0xF800#64) ∧
    (s.pmuOpen s.cfg.havePMUv3 gateEN (some (false, 21)) true = true →
      ∃ u, exec (.msrPmcrEl0 t) s = .next u ∧ u.pmu.pmovs = s.pmu.pmovs ∧
        u.pmu.pmcr.extractLsb' 11 5 = s.cfg.pmcrN ∧ u.pmu.pmcr.getLsbD 0 = (s.getX t).getLsbD 0 ∧
        (∀ n, n < 31 → vget u.pmu.evcntr n =
          if (s.getX t).getLsbD 1 = true ∧ n < s.pmcrN ∧
            (s.el2Enabled = true → s.ps.el = .el0 ∨ s.ps.el = .el1 → n < s.hpmn) then 0 else vget s.pmu.evcntr n) ∧
        u.pmu.pmccntr = if (s.getX t).getLsbD 2 then 0 else s.pmu.pmccntr)

/-- With EL2 enabled in the owning Security state the owning regime is EL2 or EL2&0 (by E2H) for E2PB = 0b00, EL1&0
for 0b10 and 0b11, one of the two for 0b01 (free, notes/assumptions 39); else EL1&0. E2SPE and E0HSPE are effectively
0 unless E2PB is 0b00, when they are the stored bits. Without EL3, an MRS of PMBIDR_EL1 with SPE reads P = 1 at EL1
exactly when EL2 is implemented and E2PB is 0b00, and 0 at EL2. (R203, R204, R205, R206, R207) -/
def Obligations.ProfilingBufferOwner : Prop :=
  ∀ s : State,
    (s.el2EnabledInOwner = false → s.owningRegime = .el10) ∧
    (s.el2EnabledInOwner = true → s.e2pb = 0 → s.owningRegime = (if s.e2h then .el20 else .el2)) ∧
    (s.el2EnabledInOwner = true → s.e2pb = 2 ∨ s.e2pb = 3 → s.owningRegime = .el10) ∧
    (s.el2EnabledInOwner = true → s.e2pb = 1 → s.owningRegime = .el10 ∨ s.owningRegime = (if s.e2h then .el20 else
      .el2)) ∧
    (s.owningEL = .el1 ↔ s.owningRegime = .el10) ∧
    (s.e2pb ≠ 0 → s.effE2spe = false ∧ s.effE0hspe = false) ∧
    (s.e2pb = 0 → s.effE2spe = s.spe.pmscrEl2.getLsbD 1 ∧ s.effE0hspe = s.spe.pmscrEl2.getLsbD 0) ∧
    (∀ t : XReg, t ≠ 31 → s.cfg.haveSPE = true → s.cfg.haveEL3 = false → s.ps.el = .el1 ∨ s.ps.el = .el2 →
      ∃ u, exec (.mrsPmbidrEl1 t) s = .next u ∧
        ((u.getX t).getLsbD 4 = true ↔ s.ps.el = .el1 ∧ s.cfg.haveEL2 = true ∧ s.e2pb = 0))

end ObligationStatements
end

