-- ==== Sys2Proof/Laws/State.lean ====
section
/-! SUPPORT. One lemma per field and per update of the state: no later proof unfolds a record update. -/

namespace Sys2Proof.Machine

@[simp] theorem State.setX_cfg (s : State) (t : XReg) (v : Word) : (s.setX t v).cfg = s.cfg := rfl
@[simp] theorem State.setX_x (s : State) (t : XReg) (v : Word) : (s.setX t v).x = vset s.x t.toNat v := rfl
@[simp] theorem State.setX_pc (s : State) (t : XReg) (v : Word) : (s.setX t v).pc = s.pc := rfl
@[simp] theorem State.setX_ps (s : State) (t : XReg) (v : Word) : (s.setX t v).ps = s.ps := rfl
@[simp] theorem State.setX_inp (s : State) (t : XReg) (v : Word) : (s.setX t v).inp = s.inp := rfl
@[simp] theorem State.setX_ctl (s : State) (t : XReg) (v : Word) : (s.setX t v).ctl = s.ctl := rfl
@[simp] theorem State.setX_exc (s : State) (t : XReg) (v : Word) : (s.setX t v).exc = s.exc := rfl
@[simp] theorem State.setX_dbg (s : State) (t : XReg) (v : Word) : (s.setX t v).dbg = s.dbg := rfl
@[simp] theorem State.setX_pmu (s : State) (t : XReg) (v : Word) : (s.setX t v).pmu = s.pmu := rfl
@[simp] theorem State.setX_spe (s : State) (t : XReg) (v : Word) : (s.setX t v).spe = s.spe := rfl
@[simp] theorem State.setX_mem (s : State) (t : XReg) (v : Word) : (s.setX t v).mem = s.mem := rfl
@[simp] theorem State.setX_events (s : State) (t : XReg) (v : Word) : (s.setX t v).events = s.events := rfl
@[simp] theorem State.setX_draws (s : State) (t : XReg) (v : Word) : (s.setX t v).draws = s.draws := rfl

@[simp] theorem State.advance_cfg (s : State) : (s.advance).cfg = s.cfg := rfl
@[simp] theorem State.advance_x (s : State) : (s.advance).x = s.x := rfl
@[simp] theorem State.advance_pc (s : State) : (s.advance).pc = s.pc + 4 := rfl
@[simp] theorem State.advance_ps (s : State) : (s.advance).ps = { s.ps with it := if s.ps.thumb then itAdvance s.ps.it else s.ps.it } := rfl
@[simp] theorem State.advance_inp (s : State) : (s.advance).inp = s.inp := rfl
@[simp] theorem State.advance_ctl (s : State) : (s.advance).ctl = s.ctl := rfl
@[simp] theorem State.advance_exc (s : State) : (s.advance).exc = s.exc := rfl
@[simp] theorem State.advance_dbg (s : State) : (s.advance).dbg = s.dbg := rfl
@[simp] theorem State.advance_pmu (s : State) : (s.advance).pmu = s.pmu := rfl
@[simp] theorem State.advance_spe (s : State) : (s.advance).spe = s.spe := rfl
@[simp] theorem State.advance_mem (s : State) : (s.advance).mem = s.mem := rfl
@[simp] theorem State.advance_events (s : State) : (s.advance).events = s.events := rfl
@[simp] theorem State.advance_draws (s : State) : (s.advance).draws = s.draws := rfl

@[simp] theorem State.halt_cfg (s : State) : (s.halt).cfg = s.cfg := rfl
@[simp] theorem State.halt_x (s : State) : (s.halt).x = s.x := rfl
@[simp] theorem State.halt_pc (s : State) : (s.halt).pc = s.pc := rfl
@[simp] theorem State.halt_ps (s : State) : (s.halt).ps = s.ps := rfl
@[simp] theorem State.halt_inp (s : State) : (s.halt).inp = { s.inp with halted := true } := rfl
@[simp] theorem State.halt_ctl (s : State) : (s.halt).ctl = s.ctl := rfl
@[simp] theorem State.halt_exc (s : State) : (s.halt).exc = s.exc := rfl
@[simp] theorem State.halt_dbg (s : State) : (s.halt).dbg = s.dbg := rfl
@[simp] theorem State.halt_pmu (s : State) : (s.halt).pmu = s.pmu := rfl
@[simp] theorem State.halt_spe (s : State) : (s.halt).spe = s.spe := rfl
@[simp] theorem State.halt_mem (s : State) : (s.halt).mem = s.mem := rfl
@[simp] theorem State.halt_events (s : State) : (s.halt).events = s.events := rfl
@[simp] theorem State.halt_draws (s : State) : (s.halt).draws = s.draws := rfl

@[simp] theorem State.setByte_cfg (s : State) (a : Word) (b : Byte) : (s.setByte a b).cfg = s.cfg := rfl
@[simp] theorem State.setByte_x (s : State) (a : Word) (b : Byte) : (s.setByte a b).x = s.x := rfl
@[simp] theorem State.setByte_pc (s : State) (a : Word) (b : Byte) : (s.setByte a b).pc = s.pc := rfl
@[simp] theorem State.setByte_ps (s : State) (a : Word) (b : Byte) : (s.setByte a b).ps = s.ps := rfl
@[simp] theorem State.setByte_inp (s : State) (a : Word) (b : Byte) : (s.setByte a b).inp = s.inp := rfl
@[simp] theorem State.setByte_ctl (s : State) (a : Word) (b : Byte) : (s.setByte a b).ctl = s.ctl := rfl
@[simp] theorem State.setByte_exc (s : State) (a : Word) (b : Byte) : (s.setByte a b).exc = s.exc := rfl
@[simp] theorem State.setByte_dbg (s : State) (a : Word) (b : Byte) : (s.setByte a b).dbg = s.dbg := rfl
@[simp] theorem State.setByte_pmu (s : State) (a : Word) (b : Byte) : (s.setByte a b).pmu = s.pmu := rfl
@[simp] theorem State.setByte_spe (s : State) (a : Word) (b : Byte) : (s.setByte a b).spe = s.spe := rfl
@[simp] theorem State.setByte_mem (s : State) (a : Word) (b : Byte) : (s.setByte a b).mem = Memory.write s.mem a.toNat b := rfl
@[simp] theorem State.setByte_events (s : State) (a : Word) (b : Byte) : (s.setByte a b).events = s.events := rfl
@[simp] theorem State.setByte_draws (s : State) (a : Word) (b : Byte) : (s.setByte a b).draws = s.draws := rfl

@[simp] theorem State.mdcrWrite_cfg (s : State) (v : Word) : (s.mdcrWrite v).cfg = s.cfg := rfl
@[simp] theorem State.mdcrWrite_x (s : State) (v : Word) : (s.mdcrWrite v).x = s.x := rfl
@[simp] theorem State.mdcrWrite_pc (s : State) (v : Word) : (s.mdcrWrite v).pc = s.pc := rfl
@[simp] theorem State.mdcrWrite_ps (s : State) (v : Word) : (s.mdcrWrite v).ps = s.ps := rfl
@[simp] theorem State.mdcrWrite_inp (s : State) (v : Word) : (s.mdcrWrite v).inp = s.inp := rfl
@[simp] theorem State.mdcrWrite_ctl (s : State) (v : Word) : (s.mdcrWrite v).ctl = { s.ctl with mdcrEl2 := mdcrMerge s.cfg s.ctl.mdcrEl2 v } := rfl
@[simp] theorem State.mdcrWrite_exc (s : State) (v : Word) : (s.mdcrWrite v).exc = s.exc := rfl
@[simp] theorem State.mdcrWrite_dbg (s : State) (v : Word) : (s.mdcrWrite v).dbg = s.dbg := rfl
@[simp] theorem State.mdcrWrite_pmu (s : State) (v : Word) : (s.mdcrWrite v).pmu = s.pmu := rfl
@[simp] theorem State.mdcrWrite_spe (s : State) (v : Word) : (s.mdcrWrite v).spe = s.spe := rfl
@[simp] theorem State.mdcrWrite_mem (s : State) (v : Word) : (s.mdcrWrite v).mem = s.mem := rfl
@[simp] theorem State.mdcrWrite_events (s : State) (v : Word) : (s.mdcrWrite v).events = s.events := rfl
@[simp] theorem State.mdcrWrite_draws (s : State) (v : Word) : (s.mdcrWrite v).draws = s.draws := rfl

@[simp] theorem State.dtrRxTaken_cfg (s : State) : (s.dtrRxTaken).cfg = s.cfg := rfl
@[simp] theorem State.dtrRxTaken_x (s : State) : (s.dtrRxTaken).x = s.x := rfl
@[simp] theorem State.dtrRxTaken_pc (s : State) : (s.dtrRxTaken).pc = s.pc := rfl
@[simp] theorem State.dtrRxTaken_ps (s : State) : (s.dtrRxTaken).ps = s.ps := rfl
@[simp] theorem State.dtrRxTaken_inp (s : State) : (s.dtrRxTaken).inp = s.inp := rfl
@[simp] theorem State.dtrRxTaken_ctl (s : State) : (s.dtrRxTaken).ctl = s.ctl := rfl
@[simp] theorem State.dtrRxTaken_exc (s : State) : (s.dtrRxTaken).exc = s.exc := rfl
@[simp] theorem State.dtrRxTaken_dbg (s : State) : (s.dtrRxTaken).dbg = { s.dbg with rxFull := false, mdccsrEl0 := s.freeDebug 1 } := rfl
@[simp] theorem State.dtrRxTaken_pmu (s : State) : (s.dtrRxTaken).pmu = s.pmu := rfl
@[simp] theorem State.dtrRxTaken_spe (s : State) : (s.dtrRxTaken).spe = s.spe := rfl
@[simp] theorem State.dtrRxTaken_mem (s : State) : (s.dtrRxTaken).mem = s.mem := rfl
@[simp] theorem State.dtrRxTaken_events (s : State) : (s.dtrRxTaken).events = s.events := rfl
@[simp] theorem State.dtrRxTaken_draws (s : State) : (s.dtrRxTaken).draws = s.draws := rfl

@[simp] theorem State.dtrTxWrite_cfg (s : State) (v : Word32) : (s.dtrTxWrite v).cfg = s.cfg := rfl
@[simp] theorem State.dtrTxWrite_x (s : State) (v : Word32) : (s.dtrTxWrite v).x = s.x := rfl
@[simp] theorem State.dtrTxWrite_pc (s : State) (v : Word32) : (s.dtrTxWrite v).pc = s.pc := rfl
@[simp] theorem State.dtrTxWrite_ps (s : State) (v : Word32) : (s.dtrTxWrite v).ps = s.ps := rfl
@[simp] theorem State.dtrTxWrite_inp (s : State) (v : Word32) : (s.dtrTxWrite v).inp = s.inp := rfl
@[simp] theorem State.dtrTxWrite_ctl (s : State) (v : Word32) : (s.dtrTxWrite v).ctl = s.ctl := rfl
@[simp] theorem State.dtrTxWrite_exc (s : State) (v : Word32) : (s.dtrTxWrite v).exc = s.exc := rfl
@[simp] theorem State.dtrTxWrite_dbg (s : State) (v : Word32) : (s.dtrTxWrite v).dbg = { s.dbg with dtrTx := v, mdccsrEl0 := s.freeDebug 1 } := rfl
@[simp] theorem State.dtrTxWrite_pmu (s : State) (v : Word32) : (s.dtrTxWrite v).pmu = s.pmu := rfl
@[simp] theorem State.dtrTxWrite_spe (s : State) (v : Word32) : (s.dtrTxWrite v).spe = s.spe := rfl
@[simp] theorem State.dtrTxWrite_mem (s : State) (v : Word32) : (s.dtrTxWrite v).mem = s.mem := rfl
@[simp] theorem State.dtrTxWrite_events (s : State) (v : Word32) : (s.dtrTxWrite v).events = s.events := rfl
@[simp] theorem State.dtrTxWrite_draws (s : State) (v : Word32) : (s.dtrTxWrite v).draws = s.draws := rfl

@[simp] theorem State.dtrWrite_cfg (s : State) (v : Word) : (s.dtrWrite v).cfg = s.cfg := rfl
@[simp] theorem State.dtrWrite_x (s : State) (v : Word) : (s.dtrWrite v).x = s.x := rfl
@[simp] theorem State.dtrWrite_pc (s : State) (v : Word) : (s.dtrWrite v).pc = s.pc := rfl
@[simp] theorem State.dtrWrite_ps (s : State) (v : Word) : (s.dtrWrite v).ps = s.ps := rfl
@[simp] theorem State.dtrWrite_inp (s : State) (v : Word) : (s.dtrWrite v).inp = s.inp := rfl
@[simp] theorem State.dtrWrite_ctl (s : State) (v : Word) : (s.dtrWrite v).ctl = s.ctl := rfl
@[simp] theorem State.dtrWrite_exc (s : State) (v : Word) : (s.dtrWrite v).exc = s.exc := rfl
@[simp] theorem State.dtrWrite_pmu (s : State) (v : Word) : (s.dtrWrite v).pmu = s.pmu := rfl
@[simp] theorem State.dtrWrite_spe (s : State) (v : Word) : (s.dtrWrite v).spe = s.spe := rfl
@[simp] theorem State.dtrWrite_mem (s : State) (v : Word) : (s.dtrWrite v).mem = s.mem := rfl
@[simp] theorem State.dtrWrite_events (s : State) (v : Word) : (s.dtrWrite v).events = s.events := rfl
@[simp] theorem State.dtrWrite_draws (s : State) (v : Word) : (s.dtrWrite v).draws = s.draws := rfl

@[simp] theorem State.osLockWrite_cfg (s : State) : (s.osLockWrite).cfg = s.cfg := rfl
@[simp] theorem State.osLockWrite_x (s : State) : (s.osLockWrite).x = s.x := rfl
@[simp] theorem State.osLockWrite_pc (s : State) : (s.osLockWrite).pc = s.pc := rfl
@[simp] theorem State.osLockWrite_ps (s : State) : (s.osLockWrite).ps = s.ps := rfl
@[simp] theorem State.osLockWrite_inp (s : State) : (s.osLockWrite).inp = s.inp := rfl
@[simp] theorem State.osLockWrite_ctl (s : State) : (s.osLockWrite).ctl = s.ctl := rfl
@[simp] theorem State.osLockWrite_exc (s : State) : (s.osLockWrite).exc = s.exc := rfl
@[simp] theorem State.osLockWrite_pmu (s : State) : (s.osLockWrite).pmu = s.pmu := rfl
@[simp] theorem State.osLockWrite_spe (s : State) : (s.osLockWrite).spe = s.spe := rfl
@[simp] theorem State.osLockWrite_mem (s : State) : (s.osLockWrite).mem = s.mem := rfl
@[simp] theorem State.osLockWrite_events (s : State) : (s.osLockWrite).events = s.events := rfl
@[simp] theorem State.osLockWrite_draws (s : State) : (s.osLockWrite).draws = s.draws := rfl

@[simp] theorem State.claimWrite_cfg (s : State) : (s.claimWrite).cfg = s.cfg := rfl
@[simp] theorem State.claimWrite_x (s : State) : (s.claimWrite).x = s.x := rfl
@[simp] theorem State.claimWrite_pc (s : State) : (s.claimWrite).pc = s.pc := rfl
@[simp] theorem State.claimWrite_ps (s : State) : (s.claimWrite).ps = s.ps := rfl
@[simp] theorem State.claimWrite_inp (s : State) : (s.claimWrite).inp = s.inp := rfl
@[simp] theorem State.claimWrite_ctl (s : State) : (s.claimWrite).ctl = s.ctl := rfl
@[simp] theorem State.claimWrite_exc (s : State) : (s.claimWrite).exc = s.exc := rfl
@[simp] theorem State.claimWrite_dbg (s : State) : (s.claimWrite).dbg = { s.dbg with claimSet := s.freeDebug 6, claimClr := s.freeDebug 7 } := rfl
@[simp] theorem State.claimWrite_pmu (s : State) : (s.claimWrite).pmu = s.pmu := rfl
@[simp] theorem State.claimWrite_spe (s : State) : (s.claimWrite).spe = s.spe := rfl
@[simp] theorem State.claimWrite_mem (s : State) : (s.claimWrite).mem = s.mem := rfl
@[simp] theorem State.claimWrite_events (s : State) : (s.claimWrite).events = s.events := rfl
@[simp] theorem State.claimWrite_draws (s : State) : (s.claimWrite).draws = s.draws := rfl

@[simp] theorem State.pmcrWrite_cfg (s : State) (v : Word) : (s.pmcrWrite v).cfg = s.cfg := rfl
@[simp] theorem State.pmcrWrite_x (s : State) (v : Word) : (s.pmcrWrite v).x = s.x := rfl
@[simp] theorem State.pmcrWrite_pc (s : State) (v : Word) : (s.pmcrWrite v).pc = s.pc := rfl
@[simp] theorem State.pmcrWrite_ps (s : State) (v : Word) : (s.pmcrWrite v).ps = s.ps := rfl
@[simp] theorem State.pmcrWrite_inp (s : State) (v : Word) : (s.pmcrWrite v).inp = s.inp := rfl
@[simp] theorem State.pmcrWrite_ctl (s : State) (v : Word) : (s.pmcrWrite v).ctl = s.ctl := rfl
@[simp] theorem State.pmcrWrite_exc (s : State) (v : Word) : (s.pmcrWrite v).exc = s.exc := rfl
@[simp] theorem State.pmcrWrite_dbg (s : State) (v : Word) : (s.pmcrWrite v).dbg = s.dbg := rfl
@[simp] theorem State.pmcrWrite_spe (s : State) (v : Word) : (s.pmcrWrite v).spe = s.spe := rfl
@[simp] theorem State.pmcrWrite_mem (s : State) (v : Word) : (s.pmcrWrite v).mem = s.mem := rfl
@[simp] theorem State.pmcrWrite_events (s : State) (v : Word) : (s.pmcrWrite v).events = s.events := rfl
@[simp] theorem State.pmcrWrite_draws (s : State) (v : Word) : (s.pmcrWrite v).draws = s.draws := rfl

@[simp] theorem State.counterWrite_cfg (s : State) (k : Nat) (v : Word) : (s.counterWrite k v).cfg = s.cfg := rfl
@[simp] theorem State.counterWrite_x (s : State) (k : Nat) (v : Word) : (s.counterWrite k v).x = s.x := rfl
@[simp] theorem State.counterWrite_pc (s : State) (k : Nat) (v : Word) : (s.counterWrite k v).pc = s.pc := rfl
@[simp] theorem State.counterWrite_ps (s : State) (k : Nat) (v : Word) : (s.counterWrite k v).ps = s.ps := rfl
@[simp] theorem State.counterWrite_inp (s : State) (k : Nat) (v : Word) : (s.counterWrite k v).inp = s.inp := rfl
@[simp] theorem State.counterWrite_ctl (s : State) (k : Nat) (v : Word) : (s.counterWrite k v).ctl = s.ctl := rfl
@[simp] theorem State.counterWrite_exc (s : State) (k : Nat) (v : Word) : (s.counterWrite k v).exc = s.exc := rfl
@[simp] theorem State.counterWrite_dbg (s : State) (k : Nat) (v : Word) : (s.counterWrite k v).dbg = s.dbg := rfl
@[simp] theorem State.counterWrite_pmu (s : State) (k : Nat) (v : Word) : (s.counterWrite k v).pmu = { s.pmu with evcntr := vset s.pmu.evcntr k (counterValue s.cfg v) } := rfl
@[simp] theorem State.counterWrite_spe (s : State) (k : Nat) (v : Word) : (s.counterWrite k v).spe = s.spe := rfl
@[simp] theorem State.counterWrite_mem (s : State) (k : Nat) (v : Word) : (s.counterWrite k v).mem = s.mem := rfl
@[simp] theorem State.counterWrite_events (s : State) (k : Nat) (v : Word) : (s.counterWrite k v).events = s.events := rfl
@[simp] theorem State.counterWrite_draws (s : State) (k : Nat) (v : Word) : (s.counterWrite k v).draws = s.draws := rfl

@[simp] theorem State.incrementCounter_cfg (s : State) (n : Nat) : (s.incrementCounter n).cfg = s.cfg := rfl
@[simp] theorem State.incrementCounter_x (s : State) (n : Nat) : (s.incrementCounter n).x = s.x := rfl
@[simp] theorem State.incrementCounter_pc (s : State) (n : Nat) : (s.incrementCounter n).pc = s.pc := rfl
@[simp] theorem State.incrementCounter_ps (s : State) (n : Nat) : (s.incrementCounter n).ps = s.ps := rfl
@[simp] theorem State.incrementCounter_inp (s : State) (n : Nat) : (s.incrementCounter n).inp = s.inp := rfl
@[simp] theorem State.incrementCounter_ctl (s : State) (n : Nat) : (s.incrementCounter n).ctl = s.ctl := rfl
@[simp] theorem State.incrementCounter_exc (s : State) (n : Nat) : (s.incrementCounter n).exc = s.exc := rfl
@[simp] theorem State.incrementCounter_dbg (s : State) (n : Nat) : (s.incrementCounter n).dbg = s.dbg := rfl
@[simp] theorem State.incrementCounter_spe (s : State) (n : Nat) : (s.incrementCounter n).spe = s.spe := rfl
@[simp] theorem State.incrementCounter_mem (s : State) (n : Nat) : (s.incrementCounter n).mem = s.mem := rfl
@[simp] theorem State.incrementCounter_events (s : State) (n : Nat) : (s.incrementCounter n).events = s.events := rfl
@[simp] theorem State.incrementCounter_draws (s : State) (n : Nat) : (s.incrementCounter n).draws = s.draws := rfl

@[simp] theorem State.takeMode_cfg (s : State) (T : EL) : (s.takeMode T).cfg = s.cfg := rfl
@[simp] theorem State.takeMode_x (s : State) (T : EL) : (s.takeMode T).x = s.x := rfl
@[simp] theorem State.takeMode_pc (s : State) (T : EL) : (s.takeMode T).pc = s.freePc := rfl
@[simp] theorem State.takeMode_ps (s : State) (T : EL) : (s.takeMode T).ps = s.psForA32 T := rfl
@[simp] theorem State.takeMode_inp (s : State) (T : EL) : (s.takeMode T).inp = s.inp := rfl
@[simp] theorem State.takeMode_ctl (s : State) (T : EL) : (s.takeMode T).ctl = s.ctl := rfl
@[simp] theorem State.takeMode_exc (s : State) (T : EL) : (s.takeMode T).exc = s.exc := rfl
@[simp] theorem State.takeMode_dbg (s : State) (T : EL) : (s.takeMode T).dbg = s.dbg := rfl
@[simp] theorem State.takeMode_pmu (s : State) (T : EL) : (s.takeMode T).pmu = s.pmu := rfl
@[simp] theorem State.takeMode_spe (s : State) (T : EL) : (s.takeMode T).spe = s.spe := rfl
@[simp] theorem State.takeMode_mem (s : State) (T : EL) : (s.takeMode T).mem = s.mem := rfl
@[simp] theorem State.takeMode_events (s : State) (T : EL) : (s.takeMode T).events = s.events := rfl
@[simp] theorem State.takeMode_draws (s : State) (T : EL) : (s.takeMode T).draws = s.draws := rfl

@[simp] theorem State.tick_cfg (s : State) : (s.tick).cfg = s.cfg := rfl
@[simp] theorem State.tick_x (s : State) : (s.tick).x = s.x := rfl
@[simp] theorem State.tick_pc (s : State) : (s.tick).pc = s.pc := rfl
@[simp] theorem State.tick_ps (s : State) : (s.tick).ps = s.ps := rfl
@[simp] theorem State.tick_inp (s : State) : (s.tick).inp = s.inp := rfl
@[simp] theorem State.tick_ctl (s : State) : (s.tick).ctl = s.ctl := rfl
@[simp] theorem State.tick_exc (s : State) : (s.tick).exc = s.exc := rfl
@[simp] theorem State.tick_dbg (s : State) : (s.tick).dbg = s.dbg := rfl
@[simp] theorem State.tick_pmu (s : State) : (s.tick).pmu = s.pmu := rfl
@[simp] theorem State.tick_spe (s : State) : (s.tick).spe = s.spe := rfl
@[simp] theorem State.tick_mem (s : State) : (s.tick).mem = s.mem := rfl
@[simp] theorem State.tick_events (s : State) : (s.tick).events = s.events := rfl
@[simp] theorem State.tick_draws (s : State) : (s.tick).draws = s.draws + 1 := rfl

@[simp] theorem State.afterReset_cfg (s : State) (c : Bool) : (s.afterReset c).cfg = s.cfg := by
  simp only [State.afterReset]
@[simp] theorem State.afterReset_pc (s : State) (c : Bool) : (s.afterReset c).pc = s.cfg.resetPc := rfl
@[simp] theorem State.afterReset_ps (s : State) (c : Bool) : (s.afterReset c).ps = s.psAfterReset := rfl
@[simp] theorem State.afterReset_inp (s : State) (c : Bool) : (s.afterReset c).inp = s.inpAfterReset := rfl
@[simp] theorem State.afterReset_ctl (s : State) (c : Bool) : (s.afterReset c).ctl = s.ctlAfterReset c := rfl
@[simp] theorem State.afterReset_dbg (s : State) (c : Bool) : (s.afterReset c).dbg = s.dbgAfterReset c := rfl
@[simp] theorem State.afterReset_pmu (s : State) (c : Bool) : (s.afterReset c).pmu = s.pmuAfterReset := rfl
@[simp] theorem State.afterReset_spe (s : State) (c : Bool) : (s.afterReset c).spe = s.speAfterReset := rfl
@[simp] theorem State.afterReset_mem (s : State) (c : Bool) : (s.afterReset c).mem = s.mem := by
  simp only [State.afterReset]
@[simp] theorem State.afterReset_events (s : State) (c : Bool) : (s.afterReset c).events = s.events := by
  simp only [State.afterReset]
@[simp] theorem State.afterReset_draws (s : State) (c : Bool) : (s.afterReset c).draws = s.draws := by
  simp only [State.afterReset]

end Sys2Proof.Machine
end

