-- ==== Sys2Proof/Laws/Memory.lean ====
section
/-! SUPPORT. Laws of memory: a read after a write, and the canonical form that every memory operation keeps. -/

namespace Sys2Proof.Machine

theorem Memory.read_of_lt {lo a : Nat} {m : List Host.Cell} (h : Memory.wfFrom lo m = true) (ha : a < lo) :
    Memory.read m a = unlistedByte := by
  induction m generalizing lo with
  | nil => rfl
  | cons c rest ih =>
    obtain ⟨b, w⟩ := c
    simp only [Memory.wfFrom, Bool.and_eq_true, decide_eq_true_eq] at h
    rw [Memory.read, if_neg (by omega)]
    exact ih h.2 (by omega)

/-- A byte reads as it was written. -/
theorem Memory.read_write_same {lo : Nat} {m : List Host.Cell} (a : Nat) (v : Byte) (h : Memory.wfFrom lo m = true) :
    Memory.read (Memory.write m a v) a = v := by
  induction m generalizing lo with
  | nil => by_cases hv : v = unlistedByte <;> simp [Memory.write, Memory.cons, Memory.read, hv]
  | cons c rest ih =>
    obtain ⟨b, w⟩ := c
    simp only [Memory.wfFrom, Bool.and_eq_true, decide_eq_true_eq] at h
    simp only [Memory.write, Memory.cons]
    split
    · rename_i hab
      split
      · rename_i hv
        rw [Memory.read, if_neg (by omega), Memory.read_of_lt h.2 (by omega), hv]
      · simp [Memory.read]
    · split
      · rename_i hab
        split
        · rename_i hv
          rw [Memory.read_of_lt h.2 (by omega), hv]
        · simp [Memory.read]
      · rename_i hab
        rw [Memory.read, if_neg hab]
        exact ih h.2

/-- A write leaves every other byte alone. -/
theorem Memory.read_write_ne (m : List Host.Cell) {a b : Nat} (v : Byte) (h : b ≠ a) :
    Memory.read (Memory.write m a v) b = Memory.read m b := by
  induction m with
  | nil => by_cases hv : v = unlistedByte <;> simp [Memory.write, Memory.cons, Memory.read, hv, h]
  | cons c rest ih =>
    obtain ⟨b', w⟩ := c
    simp only [Memory.write, Memory.cons]
    split
    · split
      · rfl
      · rw [Memory.read, if_neg h]
    · split
      · rename_i hab
        split <;> simp [Memory.read, h, ← hab]
      · simp only [Memory.read, ih]

theorem Memory.wfFrom_mono {lo lo' : Nat} {m : List Host.Cell} (h : Memory.wfFrom lo m = true) (hl : lo' ≤ lo) :
    Memory.wfFrom lo' m = true := by
  cases m with
  | nil => rfl
  | cons c rest =>
    obtain ⟨b, w⟩ := c
    simp only [Memory.wfFrom, Bool.and_eq_true, decide_eq_true_eq] at h ⊢
    exact ⟨⟨⟨by omega, h.1.1.2⟩, h.1.2⟩, h.2⟩

/-- A write keeps the canonical form. -/
theorem Memory.wfFrom_write {lo a : Nat} {m : List Host.Cell} (v : Byte) (h : Memory.wfFrom lo m = true)
    (hl : lo ≤ a) (ha : a < 2 ^ 64) : Memory.wfFrom lo (Memory.write m a v) = true := by
  induction m generalizing lo with
  | nil =>
    by_cases hv : v = unlistedByte
    · simp [Memory.write, Memory.cons, hv, Memory.wfFrom]
    · simpa [Memory.write, Memory.cons, hv, Memory.wfFrom] using ⟨hl, ha⟩
  | cons c rest ih =>
    obtain ⟨b, w⟩ := c
    have h' := h
    simp only [Memory.wfFrom, Bool.and_eq_true, decide_eq_true_eq] at h
    simp only [Memory.write, Memory.cons]
    split
    · rename_i hab
      split
      · exact h'
      · rename_i hv
        simp only [Memory.wfFrom, Bool.and_eq_true, decide_eq_true_eq]
        exact ⟨⟨⟨hl, ha⟩, hv⟩, ⟨⟨hab, h.1.1.2⟩, h.1.2⟩, h.2⟩
    · split
      · rename_i hab
        split
        · exact Memory.wfFrom_mono h.2 (by omega)
        · rename_i hv
          simp only [Memory.wfFrom, Bool.and_eq_true, decide_eq_true_eq]
          exact ⟨⟨⟨hl, ha⟩, hv⟩, hab ▸ h.2⟩
      · rename_i hab hne
        simp only [Memory.wfFrom, Bool.and_eq_true, decide_eq_true_eq]
        exact ⟨⟨⟨h.1.1.1, h.1.1.2⟩, h.1.2⟩, ih h.2 (by omega)⟩

theorem Memory.wf_write {m : List Host.Cell} (a : Word) (v : Byte) (h : Memory.wf m = true) :
    Memory.wf (Memory.write m a.toNat v) = true := Memory.wfFrom_write v h (Nat.zero_le _) a.isLt

/-- Reading back a byte of the state. -/
theorem State.byteAt_setByte (s : State) (a b : Word) (v : Byte) (h : Memory.wf s.mem = true) :
    (s.setByte a v).byteAt b = if b = a then v else s.byteAt b := by
  by_cases hb : b = a
  · simp [State.byteAt, hb, Memory.read_write_same a.toNat v h]
  · rw [if_neg hb]
    exact Memory.read_write_ne s.mem v (fun e => hb (BitVec.eq_of_toNat_eq e))

/-- A run of stored bytes is a change of memory and of nothing else. -/
theorem State.setBytes_eq (s : State) (a : Word) (bs : List Byte) :
    s.setBytes a bs = { s with mem := (s.setBytes a bs).mem } := by
  induction bs generalizing s a with
  | nil => rfl
  | cons b rest ih => rw [State.setBytes, ih]; rfl

/-- A run of stored bytes keeps the canonical form. -/
theorem State.setBytes_wf (s : State) (a : Word) (bs : List Byte) (h : Memory.wf s.mem = true) :
    Memory.wf (s.setBytes a bs).mem = true := by
  induction bs generalizing s a with
  | nil => exact h
  | cons b rest ih => exact ih _ _ (Memory.wf_write a b h)

/-- A store keeps the canonical form. -/
theorem State.store_wf (s : State) (big : Bool) (a : Word) (k v : Nat) (h : Memory.wf s.mem = true) :
    Memory.wf (s.store big a k v).mem = true := State.setBytes_wf _ _ _ h

/-- A byte outside a run of stored bytes reads as before. -/
theorem State.byteAt_setBytes_out (s : State) (a b : Word) (bs : List Byte) (hb : bs.length ≤ (b - a).toNat)
    (hl : bs.length ≤ 2 ^ 63) : (s.setBytes a bs).byteAt b = s.byteAt b := by
  induction bs generalizing s a with
  | nil => rfl
  | cons v rest ih =>
    have hne : b ≠ a := by
      rintro rfl
      simp at hb
    simp only [List.length_cons] at hb hl
    have hstep : (b - (a + 1)).toNat = (b - a).toNat - 1 := by
      have h1 : b - (a + 1) = (b - a) - 1#64 := by bv_omega
      have h2 : (1#64).toNat = 1 := rfl
      have := (b - a).isLt
      rw [h1, BitVec.toNat_sub, h2]
      omega
    rw [State.setBytes, ih (s.setByte a v) (a + 1) (by omega) (by omega)]
    exact Memory.read_write_ne s.mem v (fun e => hne (BitVec.eq_of_toNat_eq e))

theorem leBytes_length (v k : Nat) : (leBytes v k).length = k := by
  induction k generalizing v with
  | zero => rfl
  | succ k ih => simp [leBytes, ih]

/-- A byte outside a store reads as before. -/
theorem State.byteAt_store_out (s : State) (big : Bool) (a b : Word) (k v : Nat) (hb : k ≤ (b - a).toNat)
    (hk : k ≤ 2 ^ 63) : (s.store big a k v).byteAt b = s.byteAt b := by
  cases big <;> exact State.byteAt_setBytes_out s a b _ (by simpa [leBytes_length] using hb)
    (by simpa [leBytes_length] using hk)

/-- A store is a change of memory and of nothing else. -/
theorem State.store_eq (s : State) (big : Bool) (a : Word) (k v : Nat) :
    s.store big a k v = { s with mem := (s.store big a k v).mem } := State.setBytes_eq _ _ _

end Sys2Proof.Machine
end

