-- ==== Sys2Proof/Laws/Ops.lean ====
section
/-! SUPPORT. One lemma for each shared operation: everything it can do. -/

namespace Sys2Proof.Machine

/-! ### Registers -/

theorem vget_vset {n : Nat} (v : Vector Word n) (i j : Nat) (w : Word) :
    vget (vset v i w) j = if i = j ∧ j < n then w else vget v j := by
  unfold vget vset
  by_cases hj : j < n
  · by_cases hij : i = j
    · subst hij; simp [hj]
    · simp [hj, hij]
  · simp [hj]

/-- Xt after a write: the value, but for the zero register (30_encoding.md R63). -/
theorem State.getX_setX (s : State) (t r : XReg) (v : Word) :
    (s.setX t v).getX r = if t = r ∧ r ≠ 31 then v else s.getX r := by
  unfold State.getX State.setX
  rw [vget_vset]
  have h : (t.toNat = r.toNat ∧ r.toNat < 31) ↔ (t = r ∧ r ≠ 31) := by
    constructor
    · rintro ⟨h1, h2⟩
      exact ⟨BitVec.eq_of_toNat_eq h1, fun e => by rw [e] at h2; exact absurd h2 (by decide)⟩
    · rintro ⟨h1, h2⟩
      refine ⟨congrArg _ h1, ?_⟩
      have h3 : r.toNat ≠ 31 := fun e => h2 (BitVec.eq_of_toNat_eq e)
      have := r.isLt
      omega
  by_cases hc : t = r ∧ r ≠ 31
  · rw [if_pos (h.mpr hc), if_pos hc]
  · rw [if_neg (fun e => hc (h.mp e)), if_neg hc]

/-- The zero register reads as zero. -/
theorem State.getX_zr (s : State) : s.getX 31 = 0 := by
  unfold State.getX vget
  simp

/-- A write of Rt changes the general registers only. -/
theorem State.setR_eq (s : State) (t : RReg) (v : Word32) : s.setR t v = { s with x := (s.setR t v).x } := by
  unfold State.setR
  split <;> rfl

/-! ### Taking an exception -/

/-- Taking an exception changes the pc, PSTATE and the exception registers only (60_exceptions.md R241). -/
theorem State.take_eq (s : State) (T : EL) (esr : Word) :
    s.take T esr = { s with pc := (s.take T esr).pc, ps := (s.take T esr).ps, exc := (s.take T esr).exc } := by
  cases T <;> unfold State.take State.takeHyp State.takeMode State.takeSync State.saveFor State.setBank <;>
    split <;> rfl

/-- An exception is taken to its target level (60_exceptions.md R241). -/
theorem State.take_el (s : State) (T : EL) (esr : Word) : (s.take T esr).ps.el = T := by
  unfold State.take
  split
  · split
    · rename_i h; rw [h]; rfl
    · rfl
  · rfl

/-- After an exception the Execution state is the one its target level uses. -/
theorem State.take_nRW (s : State) (T : EL) (esr : Word) : (s.take T esr).ps.nRW = s.elA32 T := by
  unfold State.take
  split
  · rename_i h; rw [h]; split <;> rfl
  · rename_i h; exact (Bool.eq_false_iff.mpr h).symm

theorem State.takeHyp_eq (s : State) (esr : Word) :
    s.takeHyp esr = { s with pc := (s.takeHyp esr).pc, ps := (s.takeHyp esr).ps, exc := (s.takeHyp esr).exc } := rfl

/-- What an exception return changes. -/
theorem State.returnFrom_eq (s : State) (T : EL) :
    s.returnFrom T =
      { s with
        pc := (s.bank T).elr, ps := PState.ofSpsr s.ps (s.bank T).spsr, exc := (s.returnFrom T).exc
        inp := s.inp.setA32 (PState.ofSpsr s.ps (s.bank T).spsr).el (PState.ofSpsr s.ps (s.bank T).spsr).nRW } := by
  cases T <;> rfl

/-- After a legal exception return the Execution state is the one that the level returned to is using. -/
theorem State.returnFrom_nRW {s : State} {T : EL} (h : s.legalReturn T (s.bank T).spsr = true)
    (h0 : (s.returnFrom T).ps.el ≠ .el0) : (s.returnFrom T).ps.nRW = (s.returnFrom T).elA32 (s.returnFrom T).ps.el := by
  rw [State.returnFrom_eq] at h0 ⊢
  unfold State.legalReturn at h
  generalize PState.ofSpsr s.ps (s.bank T).spsr = p at *
  cases hp : p.el <;> simp_all [State.elA32, State.el2A32, State.secureEL2, Inputs.setA32]
  intros; cases hn : p.nRW <;> simp_all

/-- At EL0 every register is reported by the number of a register usable there, or by 15 (60_exceptions.md R233). -/
theorem State.regView_el0 {s : State} (h : s.ps.el = .el0) (site : DrawSite) (t : RReg) :
    (s.regView site t).toNat ≤ 15 := by
  have hf : s.freeBelow site 15 < 15 := by
    unfold State.freeBelow
    rw [if_neg (by decide)]
    exact Nat.mod_lt _ (by decide)
  unfold State.regView
  rw [if_pos h, if_pos h]
  split
  · split
    · rw [BitVec.toNat_ofNat]; omega
    · decide
  · split <;> (rw [BitVec.toNat_setWidth]; omega)

/-! ### The instruction forms -/

/-- Everything an MRS can do. -/
theorem mrsNext_cases (e : SysEnc) (t : XReg) (d : Decision) (read : Nat → Word) (after : State → State) (s : State) :
    (∃ k, d = .access k ∧ mrsNext e t d read after s = ((after s).setX t (read k)).advance)
    ∨ (d = .nop ∧ mrsNext e t d read after s = s.advance)
    ∨ (d = .raz ∧ mrsNext e t d read after s = (s.setX t 0).advance)
    ∨ (d = .undefined ∧ mrsNext e t d read after s = s.takeUndefined)
    ∨ (∃ T, d = .trap T ∧ mrsNext e t d read after s = s.takeTrap T 0x18 (iss18 e t true))
    ∨ (d = .halt ∧ mrsNext e t d read after s = s.halt)
    ∨ (∃ off, d = .nvMem off ∧ mrsNext e t d read after s = (s.setX t (s.nvRead off)).advance) := by
  cases d <;> simp [mrsNext]

/-- Everything an MSR can do. -/
theorem msrNext_cases (e : SysEnc) (t : XReg) (d : Decision) (write : Nat → Word → State) (s : State) :
    (∃ k, d = .access k ∧ msrNext e t d write s = (write k (s.getX t)).advance)
    ∨ ((d = .nop ∨ d = .raz) ∧ msrNext e t d write s = s.advance)
    ∨ (d = .undefined ∧ msrNext e t d write s = s.takeUndefined)
    ∨ (∃ T, d = .trap T ∧ msrNext e t d write s = s.takeTrap T 0x18 (iss18 e t false))
    ∨ (d = .halt ∧ msrNext e t d write s = s.halt)
    ∨ (∃ off, d = .nvMem off ∧ msrNext e t d write s = (s.nvWrite off (s.getX t)).advance) := by
  cases d <;> simp [msrNext]

/-- Everything an AArch32 access can do. -/
theorem next32_cases (cond : Cond) (ec : BitVec 6) (iss : BitVec 25) (d : Decision32) (acc : Nat → State)
    (zero s : State) :
    (s.condPassed cond = true ∧ ∃ k, d = .access k ∧ next32 cond ec iss d acc zero s = (acc k).advance)
    ∨ (s.condPassed cond = true ∧ d = .raz ∧ next32 cond ec iss d acc zero s = zero.advance)
    ∨ (next32 cond ec iss d acc zero s = s.advance)
    ∨ (d = .undefined ∧ next32 cond ec iss d acc zero s = s.takeUndefined)
    ∨ (∃ T, d = .trap T ∧ next32 cond ec iss d acc zero s = s.takeTrap T ec iss)
    ∨ (d = .hypTrap ∧ next32 cond ec iss d acc zero s = s.takeHyp (esrValue ec true iss))
    ∨ (d = .hypUndef ∧ next32 cond ec iss d acc zero s = s.takeHyp undefinedEsr)
    ∨ (d = .monitorTrap ∧ next32 cond ec iss d acc zero s = s.takeMode .el3) := by
  unfold next32
  by_cases h : s.condPassed cond = true
  · cases d <;> simp [h, State.takeDecision32]
  · cases d <;> simp only [h, Decision32.isTrap, Bool.false_eq_true, if_false, Bool.and_false, Bool.and_true] <;>
      by_cases h2 : s.cfg.trapFailedCondition = true <;> simp [h2, State.takeDecision32]

end Sys2Proof.Machine
end

