-- ==== Sys2Proof/Laws/Chains.lean ====
section
/-! SUPPORT. One lemma for each accessor chain: under the condition of Safety.lean the chain decides to perform the
access. -/

namespace Sys2Proof.Machine

theorem mdcrChain_open {s : State} (h : s.mdcrOpen = true) : mdcrChain s = .access 0 := by
  unfold State.mdcrOpen at h
  unfold mdcrChain
  cases he : s.ps.el <;> grind

theorem hdcrChain_open {s : State} (h : s.hdcrOpen = true) : hdcrChain s = .access 0 := by
  unfold State.hdcrOpen at h
  unfold hdcrChain
  cases he : s.ps.el <;> grind

/-! ### Debug registers, A64 -/

theorem dccTail_open {s : State} (h : (!(s.a64EL3 && (s.tdcc3 || s.tda3))) = true) : dccTail s = .access 0 := by
  unfold dccTail
  grind

theorem dccUserChain_open {s : State} (h : s.dccUserOpen = true) : dccUserChain s = .access 0 := by
  unfold State.dccUserOpen at h
  unfold dccUserChain dccEl0 dccEl1 dccTail State.tdx
  cases he : s.ps.el <;> grind

theorem dccChain_open {s : State} (h : s.dccOpen = true) : dccChain s = .access 0 := by
  unfold State.dccOpen at h
  rw [Bool.and_eq_true, decide_eq_true_eq] at h
  have := dccUserChain_open h.2
  unfold dccUserChain at this
  unfold dccChain
  cases he : s.ps.el <;> simp_all

theorem dtrChain_open {s : State} (h : s.dtrOpen = true) : dtrChain s = .access 0 := by
  unfold State.dtrOpen at h
  unfold dtrChain
  rcases Bool.or_eq_true_iff.mp h with h | h
  · simp [h]
  · simp [dccUserChain_open h]

theorem tdaChain_open {s : State} {read : Bool} {bit : Nat} (h : s.tdaOpen read bit = true) (acc acc' : Decision) :
    tdaChain read bit acc acc' s = if s.ps.el = .el1 then acc else acc' := by
  unfold State.tdaOpen at h
  unfold tdaChain tdaTail State.tdx
  cases he : s.ps.el <;> grind

theorem tdaChain_open_same {s : State} {read : Bool} {bit : Nat} (h : s.tdaOpen read bit = true) (acc : Decision) :
    tdaChain read bit acc acc s = acc := by rw [tdaChain_open h]; split <;> rfl

theorem mdscrChain_open {s : State} {read : Bool} (h : s.tdaOpen read 4 = true) (hr : s.redirectAny = false) :
    mdscrChain read s = .access 0 := by
  unfold mdscrChain
  rw [tdaChain_open h]
  unfold State.redirectAny at hr
  split <;> simp_all [State.nvAny]

theorem mdscrChain_redirect {s : State} {read : Bool} (h : s.tdaOpen read 4 = true) (hr : s.redirectAny = true) :
    mdscrChain read s = .nvMem 0x158 := by
  unfold mdscrChain
  rw [tdaChain_open h]
  unfold State.redirectAny at hr
  split <;> simp_all [State.nvAny]

theorem breakChain_open {s : State} {read : Bool} {bit count : Nat} {n : BitVec 4}
    (h : s.breakOpen read bit n count = true) : breakChain read bit n count s = .access 0 := by
  unfold State.breakOpen at h
  rw [Bool.and_eq_true, Bool.and_eq_true, decide_eq_true_eq] at h
  have hh : s.softwareAccessHalt = false := by rw [← Bool.not_eq_true']; exact h.2
  unfold breakChain
  simp only [hh, if_neg (Nat.not_le.mpr h.1.1), tdaChain_open_same h.1.2]
  rfl

theorem mdrarChain_open {s : State} (h : s.mdrarOpen = true) : mdrarChain s = .access 0 := by
  unfold State.mdrarOpen at h
  unfold mdrarChain tdaTail State.tdx
  cases he : s.ps.el <;> grind

theorem tdosaChain_open {s : State} {read : Bool} {bit : Nat} (h : s.tdosaOpen read bit = true) :
    tdosaChain read bit true true true s = .access 0 := by
  unfold State.tdosaOpen at h
  unfold tdosaChain State.tdx
  cases he : s.ps.el <;> grind

theorem osdlrChain_open {s : State} {read : Bool} (h : s.osdlrOpen read = true) : osdlrChain read s = .access 0 := by
  unfold State.osdlrOpen at h
  unfold osdlrChain tdosaChain State.tdx
  cases he : s.ps.el <;> grind

/-! ### Debug registers, AArch32 -/

theorem el2Enabled_eq (s : State) : s.el2Enabled = (s.a64EL2 || s.a32EL2) := by
  unfold State.a64EL2 State.a32EL2
  cases s.el2Enabled <;> cases s.el2A32 <;> rfl

theorem tda32Chain_open {s : State} (h : s.tda32Open = true) : tda32Chain s = .access 0 := by
  unfold State.tda32Open at h
  rw [el2Enabled_eq] at h
  unfold tda32Chain State.tdx
  cases he : s.ps.el <;> grind

theorem break32Chain_open {s : State} {n : BitVec 4} {count : Nat} (hn : n.toNat < count) (h : s.tda32Open = true) :
    break32Chain n count s = .access 0 := by
  unfold break32Chain
  rw [if_neg (Nat.not_le.mpr hn), tda32Chain_open h]

theorem dcc32Tail_open {s : State} {dcc : Bool}
    (h : (!(s.a64EL3 && ((dcc && s.tdcc3) || s.tda3)) && !(dcc && s.a32EL3 && s.sdcrTdcc)) = true) :
    dcc32Tail dcc s = .access 0 := by
  unfold dcc32Tail
  grind

theorem dcc32El1_open {s : State} {dcc : Bool}
    (h : (!(s.a64EL3 && ((dcc && s.tdcc3) || s.tda3)) && !(dcc && s.a32EL3 && s.sdcrTdcc)) = true)
    (h2 : (!(s.el2Enabled && ((dcc && s.tdcc) || s.tde || s.tda))) = true) : dcc32El1 dcc s = .access 0 := by
  rw [el2Enabled_eq] at h2
  unfold dcc32El1 dcc32Tail State.tdx
  grind

theorem dcc32UserChain_open {s : State} {dcc : Bool} (h : s.dcc32UserOpen dcc = true) :
    dcc32UserChain dcc s = .access 0 := by
  unfold State.dcc32UserOpen at h
  rw [el2Enabled_eq] at h
  unfold dcc32UserChain user32First dcc32El1 dcc32Tail State.tdx
  cases he : s.ps.el <;> grind

theorem dcc32Chain_open {s : State} (h : s.dcc32Open = true) : dcc32Chain s = .access 0 := by
  unfold State.dcc32Open at h
  rw [Bool.and_eq_true, decide_eq_true_eq] at h
  have := dcc32UserChain_open h.2
  unfold dcc32UserChain at this
  unfold dcc32Chain
  cases he : s.ps.el <;> simp_all

theorem dtr32Chain_open {s : State} (h : s.dtr32Open = true) : dtr32Chain s = .access 0 := by
  unfold State.dtr32Open at h
  unfold dtr32Chain
  rcases Bool.or_eq_true_iff.mp h with h | h
  · simp [h]
  · simp [dcc32UserChain_open h]

theorem tdra32Chain_open {s : State} (h : s.tdra32Open = true) : tdra32Chain s = .access 0 := by
  unfold State.tdra32Open at h
  rw [el2Enabled_eq] at h
  unfold tdra32Chain user32First State.tdx
  cases he : s.ps.el <;> grind

theorem tdosa32Chain_open {s : State} (h : s.tdosa32Open false = true) : tdosa32Chain true true s = .access 0 := by
  unfold State.tdosa32Open at h
  rw [el2Enabled_eq] at h
  unfold tdosa32Chain State.tdx
  cases he : s.ps.el <;> grind

theorem osdlr32Chain_open {s : State} (h : s.tdosa32Open true = true) : osdlr32Chain s = .access 0 := by
  unfold State.tdosa32Open at h
  rw [el2Enabled_eq] at h
  unfold osdlr32Chain tdosa32Chain State.tdx
  cases he : s.ps.el <;> grind

/-! ### Performance Monitors -/

theorem pmuChain_open {s : State} {present pmcr : Bool} {user : UserGate} {fgt : Option (Bool × Nat)}
    (h : s.pmuOpen present user fgt pmcr = true) (acc : Decision) :
    pmuChain present user fgt none pmcr acc s = acc := by
  unfold State.pmuOpen at h
  unfold pmuChain pmuTail
  cases he : s.ps.el <;> grind

theorem pmuPlain_open {s : State} {user : UserGate} {fgt : Option (Bool × Nat)}
    (h : s.pmuOpen s.cfg.havePMUv3 user fgt false = true) : pmuPlain user fgt s = .access 0 := pmuChain_open h _

theorem pmu32Chain_open {s : State} {present pmcr t9 : Bool} {user : UserGate} {fgt : Option (Bool × Nat)}
    (h : s.pmu32Open present user t9 fgt pmcr = true) (acc : Decision32) :
    pmu32Chain present user t9 fgt none pmcr acc s = acc := by
  unfold State.pmu32Open at h
  rw [el2Enabled_eq] at h
  unfold pmu32Chain pmu32Traps pmu32Tail
  cases he : s.ps.el <;> grind

theorem pmu32Plain_open {s : State} {user : UserGate} {fgt : Option (Bool × Nat)}
    (h : s.pmu32Open s.cfg.havePMUv3 user true fgt false = true) : pmu32Plain user fgt s = .access 0 :=
  pmu32Chain_open h _

theorem partHpmn_plain {s : State} (h : s.hpmnPlain = true) (use : HpmnUse) (n : Nat) :
    s.partHpmn use n = if !s.cfg.haveEL2 then s.pmcrN else if s.pmcrN = 0 then 0 else s.hpmn := by
  unfold State.hpmnPlain State.hpmnLegal at h
  unfold State.partHpmn hpmnIllegal
  grind

theorem partHpmn_legal {s : State} (h2 : s.cfg.haveEL2 = true) (h : s.hpmnLegal = true) (use : HpmnUse) (n : Nat) :
    s.partHpmn use n = s.hpmn := by
  unfold State.hpmnLegal at h
  unfold State.partHpmn hpmnIllegal
  grind

theorem haveEL2_of_enabled {s : State} (h : s.el2Enabled = true) : s.cfg.haveEL2 = true := by
  unfold State.el2Enabled at h
  grind

theorem accessible_of_counterOpen {s : State} {n : Nat} (h : s.counterOpen n = true) (use : HpmnUse) :
    s.accessible use n = true := by
  unfold State.counterOpen at h
  unfold State.accessible State.accessibleCount State.atGuestLevel
  have := @partHpmn_legal s
  have := @haveEL2_of_enabled s
  cases he : s.ps.el <;> grind

theorem counterAccess_open {s : State} {n : Nat} (h : s.counterOpen n = true) (indirect type checked : Bool) :
    s.counterAccess n indirect type checked = .access n := by
  unfold State.counterAccess
  rw [accessible_of_counterOpen h, Bool.or_true, if_pos rfl]

theorem hpmnCheck_open {s : State} {n : Nat} (h : s.counterOpen n = true) (hg : s.ps.el = .el0 ∨ s.ps.el = .el1) :
    s.hpmnCheck n = none := by
  unfold State.counterOpen at h
  unfold State.hpmnCheck State.a64EL2
  have := @partHpmn_legal s
  have := @haveEL2_of_enabled s
  cases he : s.ps.el <;> grind

theorem pmuChain_range {s : State} {present pmcr : Bool} {user : UserGate} {fgt : Option (Bool × Nat)}
    {range : Option Decision} (acc : Decision) (hr : s.ps.el = .el0 ∨ s.ps.el = .el1 → range = none) :
    pmuChain present user fgt range pmcr acc s = pmuChain present user fgt none pmcr acc s := by
  unfold pmuChain
  cases he : s.ps.el <;> grind

theorem pmu32Chain_range {s : State} {present t9 pmcr : Bool} {user : UserGate} {fgt : Option (Bool × Nat)}
    {range : Option Decision32} (acc : Decision32) (hr : s.ps.el = .el0 ∨ s.ps.el = .el1 → range = none) :
    pmu32Chain present user t9 fgt range pmcr acc s = pmu32Chain present user t9 fgt none pmcr acc s := by
  unfold pmu32Chain
  cases he : s.ps.el <;> grind

theorem counter_ne_31 {s : State} {n : Nat} (h : s.counterOpen n = true) : n ≠ 31 := by
  unfold State.counterOpen at h
  rw [Bool.and_eq_true, decide_eq_true_eq] at h
  have := s.cfg.pmcrN.isLt
  unfold State.pmcrN at h
  omega

theorem counterChain_open {s : State} {user : UserGate} {fgt : Bool × Nat} {n : Nat} (indirect type : Bool)
    (h : s.pmuOpen s.cfg.havePMUv3 user (some fgt) false = true) (hn : s.counterOpen n = true) :
    counterChain user fgt n indirect type s = .access n := by
  unfold counterChain
  rw [if_neg (by simp [counter_ne_31 hn]), pmuChain_range _ (hpmnCheck_open hn), counterAccess_open hn, pmuChain_open h]

theorem counterChain_31 {s : State} {user : UserGate} {fgt : Bool × Nat} {n : Nat} (hn : n = 31)
    (h : s.pmuOpen s.cfg.havePMUv3 user (some fgt) false = true) :
    counterChain user fgt n true true s = .access 31 := by
  unfold counterChain
  rw [if_pos (by simp [hn]), pmuChain_open h]

theorem counter32Chain_open {s : State} {user : UserGate} {t9 : Bool} {fgt : Bool × Nat} {n : Nat}
    (indirect type : Bool) (h : s.pmu32Open s.cfg.havePMUv3 user t9 (some fgt) false = true)
    (hn : s.counterOpen n = true) : counter32Chain user t9 fgt n indirect type s = .access n := by
  unfold counter32Chain
  rw [if_neg (by simp [counter_ne_31 hn])]
  simp only
  rw [pmu32Chain_range _ (fun hg => by rw [hpmnCheck_open hn hg]; rfl), counterAccess_open hn, pmu32Chain_open h]
  rfl

theorem counter32Chain_31 {s : State} {user : UserGate} {t9 : Bool} {fgt : Bool × Nat} {n : Nat} (hn : n = 31)
    (h : s.pmu32Open s.cfg.havePMUv3 user t9 (some fgt) false = true) :
    counter32Chain user t9 fgt n true true s = .access 31 := by
  unfold counter32Chain
  rw [if_pos (by simp [hn]), pmu32Chain_open h]

/-! ### Statistical Profiling and trace filter -/

theorem speChain_open {s : State} {control read : Bool} {bit : Nat} (h : s.speOpen control read bit = true)
    (acc : Decision) : speChain control read bit acc s = if s.ps.el = .el1 then acc else .access 0 := by
  unfold State.speOpen at h
  unfold speChain State.nspbTrap
  cases he : s.ps.el <;> grind

theorem speNv_open {s : State} {control read c : Bool} {bit off : Nat} (h : s.speOpen control read bit = true)
    (hr : s.ps.el = .el1 → c = false) : speChain control read bit (nvThen c off) s = .access 0 := by
  rw [speChain_open h]
  unfold nvThen
  grind

theorem speNv_redirect {s : State} {control read c : Bool} {bit off : Nat} (h : s.speOpen control read bit = true)
    (he : s.ps.el = .el1) (hc : c = true) : speChain control read bit (nvThen c off) s = .nvMem off := by
  rw [speChain_open h, if_pos he, hc]
  rfl

theorem nvAny_of_redirect {s : State} (h : s.redirectAny = false) (he : s.ps.el = .el1) : s.nvAny = false := by
  unfold State.redirectAny at h
  unfold State.nvAny
  grind

theorem nvAll_of_redirect {s : State} (h : s.redirectAll = false) (he : s.ps.el = .el1) : s.nvAll = false := by
  unfold State.redirectAll at h
  unfold State.nvAll
  grind

theorem redirectAny_true {s : State} (h : s.redirectAny = true) : s.ps.el = .el1 ∧ s.nvAny = true := by
  unfold State.redirectAny at h
  unfold State.nvAny
  grind

theorem redirectAll_true {s : State} (h : s.redirectAll = true) : s.ps.el = .el1 ∧ s.nvAll = true := by
  unfold State.redirectAll at h
  unfold State.nvAll
  grind

theorem pmbidrChain_open {s : State} (h : s.cfg.haveSPE = true) (he : s.ps.el ≠ .el0) : pmbidrChain s = .access 0 := by
  simp [pmbidrChain, h, he]

theorem trfcrChain_open {s : State} {read : Bool} (h : s.trfcrOpen read = true) (hr : s.redirectAll = false) :
    trfcrChain read s = .access 0 := by
  unfold State.trfcrOpen at h
  have := @nvAll_of_redirect s hr
  unfold trfcrChain nvThen
  cases he : s.ps.el <;> grind

theorem trfcrChain_redirect {s : State} {read : Bool} (h : s.trfcrOpen read = true) (hr : s.redirectAll = true) :
    trfcrChain read s = .nvMem 0x880 := by
  unfold State.trfcrOpen at h
  have := @redirectAll_true s hr
  unfold trfcrChain nvThen
  cases he : s.ps.el <;> grind

theorem trfcr32Chain_open {s : State} (h : s.trfcr32Open = true) : trfcr32Chain s = .access 0 := by
  unfold State.trfcr32Open at h
  rw [el2Enabled_eq] at h
  unfold trfcr32Chain
  cases he : s.ps.el <;> grind

/-! ### The forms -/

theorem runMrs_access {e : SysEnc} {t : XReg} {d : Decision} {read : Nat → Word} {s : State} {after : State → State}
    {k : Nat} (h : d = .access k) : runMrs e t d read s after = .next (((after s).setX t (read k)).advance) := by
  rw [h]; rfl

theorem runMsr_access {e : SysEnc} {t : XReg} {d : Decision} {write : Nat → Word → State} {s : State} {k : Nat}
    (h : d = .access k) : runMsr e t d write s = .next ((write k (s.getX t)).advance) := by
  rw [h]; rfl

theorem run32_access {c : Cond} {ec : BitVec 6} {iss : BitVec 25} {d : Decision32} {acc : Nat → State}
    {zero s : State} {k : Nat} (hc : s.condPassed c = true) (h : d = .access k) :
    run32 c ec iss d acc zero s = .next ((acc k).advance) := by
  rw [h]; simp [run32, next32, hc]

/-! ### The forms when a check stops the access -/

theorem runMrs_trap {e : SysEnc} {t : XReg} {d : Decision} {read : Nat → Word} {s : State} {after : State → State}
    {T : EL} (h : d = .trap T) : runMrs e t d read s after = .next (s.takeTrap T 0x18 (iss18 e t true)) := by
  rw [h]; rfl

theorem runMsr_trap {e : SysEnc} {t : XReg} {d : Decision} {write : Nat → Word → State} {s : State} {T : EL}
    (h : d = .trap T) : runMsr e t d write s = .next (s.takeTrap T 0x18 (iss18 e t false)) := by
  rw [h]; rfl

theorem runMrs_undefined {e : SysEnc} {t : XReg} {d : Decision} {read : Nat → Word} {s : State}
    {after : State → State} (h : d = .undefined) : runMrs e t d read s after = .next s.takeUndefined := by
  rw [h]; rfl

theorem runMsr_undefined {e : SysEnc} {t : XReg} {d : Decision} {write : Nat → Word → State} {s : State}
    (h : d = .undefined) : runMsr e t d write s = .next s.takeUndefined := by
  rw [h]; rfl

theorem runMrs_halt {e : SysEnc} {t : XReg} {d : Decision} {read : Nat → Word} {s : State} {after : State → State}
    (h : d = .halt) : runMrs e t d read s after = .next s.halt := by
  rw [h]; rfl

theorem runMsr_halt {e : SysEnc} {t : XReg} {d : Decision} {write : Nat → Word → State} {s : State}
    (h : d = .halt) : runMsr e t d write s = .next s.halt := by
  rw [h]; rfl

/-- A trap to EL2 using AArch32 is the Hyp Trap exception (60_exceptions.md R234). -/
theorem State.takeTrap_hyp {s : State} (h : s.el2A32 = true) (ec : BitVec 6) (iss : BitVec 25) :
    s.takeTrap .el2 ec iss = s.takeHyp (esrValue ec true iss) := by
  simp [State.takeTrap, State.take, State.elA32, h]

theorem run32_undefined {c : Cond} {ec : BitVec 6} {iss : BitVec 25} {d : Decision32} {acc : Nat → State}
    {zero s : State} (hc : s.condPassed c = true) (h : d = .undefined) :
    run32 c ec iss d acc zero s = .next s.takeUndefined := by
  rw [h]; simp [run32, next32, hc, State.takeDecision32]

theorem run32_trap {c : Cond} {ec : BitVec 6} {iss : BitVec 25} {d : Decision32} {acc : Nat → State}
    {zero s : State} {T : EL} (hc : s.condPassed c = true) (h : d = .trap T) :
    run32 c ec iss d acc zero s = .next (s.takeTrap T ec iss) := by
  rw [h]; simp [run32, next32, hc, State.takeDecision32]

/-- A trap to EL2 in either Execution state. -/
theorem run32_el2 {c : Cond} {ec : BitVec 6} {iss : BitVec 25} {d : Decision32} {acc : Nat → State} {zero s : State}
    (hc : s.condPassed c = true) (h : d = .trap .el2 ∨ (d = .hypTrap ∧ s.el2A32 = true)) :
    run32 c ec iss d acc zero s = .next (s.takeTrap .el2 ec iss) := by
  rcases h with h | ⟨h, ha⟩
  · exact run32_trap hc h
  · rw [h, State.takeTrap_hyp ha]; simp [run32, next32, hc, State.takeDecision32]

theorem run32_hypUndef {c : Cond} {ec : BitVec 6} {iss : BitVec 25} {d : Decision32} {acc : Nat → State}
    {zero s : State} (hc : s.condPassed c = true) (h : d = .hypUndef) :
    run32 c ec iss d acc zero s = .next (s.takeHyp undefinedEsr) := by
  rw [h]; simp [run32, next32, hc, State.takeDecision32]

theorem run32_monitor {c : Cond} {ec : BitVec 6} {iss : BitVec 25} {d : Decision32} {acc : Nat → State}
    {zero s : State} (hc : s.condPassed c = true) (h : d = .monitorTrap) :
    run32 c ec iss d acc zero s = .next (s.takeMode .el3) := by
  rw [h]; simp [run32, next32, hc, State.takeDecision32]

end Sys2Proof.Machine
end

