-- ==== Sys2Proof/Laws/Targets.lean ====
section
/-! SUPPORT. Where the chains may send an exception, and what an access may do to the state: the two facts from which
every statement about all instructions follows. -/

namespace Sys2Proof.Machine

/-- A level that an access at the current level may trap to (60_exceptions.md R221). -/
def State.trapTarget (s : State) (T : EL) : Prop :=
  (T = .el1 ∧ s.ps.el = .el0) ∨ (T = .el2 ∧ s.el2Enabled = true ∧ (s.ps.el = .el0 ∨ s.ps.el = .el1))
    ∨ (T = .el3 ∧ s.cfg.haveEL3 = true ∧ s.ps.el ≠ .el3)

/-- A decision traps only to such a level. -/
def Decision.Sound (s : State) (d : Decision) : Prop := ∀ T, d = .trap T → s.trapTarget T

/-- An AArch32 decision traps only to such a level, and the exceptions of AArch32 levels are taken to levels using
AArch32. -/
structure Decision32.Sound (s : State) (d : Decision32) : Prop where
  trap : ∀ T, d = .trap T → s.trapTarget T
  hyp : d = .hypTrap ∨ d = .hypUndef → s.trapTarget .el2 ∧ s.el2A32 = true
  monitor : d = .monitorTrap → s.trapTarget .el3 ∧ s.inp.el3A32 = true

theorem a64EL2_spec {s : State} (h : s.a64EL2 = true) : s.el2Enabled = true ∧ s.el2A32 = false := by
  unfold State.a64EL2 at h; grind

theorem a32EL2_spec {s : State} (h : s.a32EL2 = true) : s.el2Enabled = true ∧ s.el2A32 = true := by
  unfold State.a32EL2 at h; grind

theorem a64EL3_spec {s : State} (h : s.a64EL3 = true) : s.cfg.haveEL3 = true ∧ s.inp.el3A32 = false := by
  unfold State.a64EL3 at h; grind

theorem a32EL3_spec {s : State} (h : s.a32EL3 = true) : s.cfg.haveEL3 = true ∧ s.inp.el3A32 = true := by
  unfold State.a32EL3 at h; grind

theorem fgt1_spec {s : State} {r : Bool} {b : Nat} (h : s.fgt1 r b = true) : s.el2Enabled = true := by
  unfold State.fgt1 State.a64EL2 at h; grind

theorem fgt0_spec {s : State} {r : Bool} {b : Nat} (h : s.fgt0 r b = true) : s.el2Enabled = true := by
  unfold State.fgt0 at h; grind

theorem mdcrChain_sound (s : State) : (mdcrChain s).Sound s := by
  intro T h
  have := @a64EL3_spec s
  unfold mdcrChain at h
  unfold State.trapTarget
  cases he : s.ps.el <;> grind

theorem hdcrChain_sound (s : State) : (hdcrChain s).Sound s := by
  have := @a64EL3_spec s
  have := @a64EL2_spec s
  have := @a32EL2_spec s
  constructor <;> (intros; unfold hdcrChain at *; unfold State.trapTarget; cases he : s.ps.el <;> grind)

theorem dccUserChain_sound (s : State) : (dccUserChain s).Sound s := by
  intro T h
  have := @a64EL3_spec s
  have := @a64EL2_spec s
  unfold dccUserChain dccEl0 dccEl1 dccTail at h
  unfold State.trapTarget
  cases he : s.ps.el <;> grind

theorem dccChain_sound (s : State) : (dccChain s).Sound s := by
  intro T h
  have := @a64EL3_spec s
  have := @a64EL2_spec s
  unfold dccChain dccEl1 dccTail at h
  unfold State.trapTarget
  cases he : s.ps.el <;> grind

theorem dtrChain_sound (s : State) : (dtrChain s).Sound s := by
  intro T h
  unfold dtrChain at h
  split at h
  · cases h
  · exact dccUserChain_sound s T h

theorem tdaChain_sound (s : State) (read : Bool) (b : Nat) {acc acc' : Decision} (h1 : acc.Sound s)
    (h2 : acc'.Sound s) : (tdaChain read b acc acc' s).Sound s := by
  intro T h
  have := @a64EL3_spec s
  have := @a64EL2_spec s
  have := @fgt1_spec s
  have := h1 T
  have := h2 T
  unfold tdaChain tdaTail at h
  unfold State.trapTarget at *
  cases he : s.ps.el <;> grind

theorem access_sound (s : State) (k : Nat) : (Decision.access k).Sound s := fun _ h => by cases h
theorem halt_sound (s : State) : Decision.halt.Sound s := fun _ h => by cases h
theorem nvMem_sound (s : State) (k : Nat) : (Decision.nvMem k).Sound s := fun _ h => by cases h

theorem mdscrChain_sound (s : State) (read : Bool) : (mdscrChain read s).Sound s :=
  tdaChain_sound s read 4 (by split; exacts [nvMem_sound s _, access_sound s _]) (access_sound s _)

theorem breakChain_sound (s : State) (read : Bool) (b : Nat) (n : BitVec 4) (count : Nat) :
    (breakChain read b n count s).Sound s := by
  unfold breakChain
  simp only
  split
  · intro T h; simp at h
  · have : (if s.softwareAccessHalt = true then Decision.halt else Decision.access 0).Sound s := by
      split; exacts [halt_sound s, access_sound s _]
    exact tdaChain_sound s read b this this

theorem mdrarChain_sound (s : State) : (mdrarChain s).Sound s := by
  intro T h
  have := @a64EL3_spec s
  have := @a64EL2_spec s
  unfold mdrarChain tdaTail at h
  unfold State.trapTarget
  cases he : s.ps.el <;> grind

theorem tdosaChain_sound (s : State) (read : Bool) (b : Nat) (cf c2 c3 : Bool) :
    (tdosaChain read b cf c2 c3 s).Sound s := by
  intro T h
  have := @a64EL3_spec s
  have := @a64EL2_spec s
  have := @fgt1_spec s
  unfold tdosaChain at h
  unfold State.trapTarget
  cases he : s.ps.el <;> grind

theorem tda32Chain_sound (s : State) : (tda32Chain s).Sound s := by
  have := @a64EL3_spec s
  have := @a64EL2_spec s
  have := @a32EL2_spec s
  constructor <;> (intros; unfold tda32Chain at *; unfold State.trapTarget; cases he : s.ps.el <;> grind)

theorem break32Chain_sound (s : State) (n : BitVec 4) (count : Nat) : (break32Chain n count s).Sound s := by
  unfold break32Chain
  split
  · constructor <;> (intros; simp_all)
  · exact tda32Chain_sound s

theorem dcc32UserChain_sound (s : State) (dcc : Bool) : (dcc32UserChain dcc s).Sound s := by
  have := @a64EL3_spec s
  have := @a32EL3_spec s
  have := @a64EL2_spec s
  have := @a32EL2_spec s
  constructor <;>
    (intros; unfold dcc32UserChain user32First dcc32El1 dcc32Tail at *; unfold State.trapTarget
     cases he : s.ps.el <;> grind)

theorem dcc32Chain_sound (s : State) : (dcc32Chain s).Sound s := by
  have := @a64EL3_spec s
  have := @a32EL3_spec s
  have := @a64EL2_spec s
  have := @a32EL2_spec s
  constructor <;>
    (intros; unfold dcc32Chain dcc32El1 dcc32Tail at *; unfold State.trapTarget; cases he : s.ps.el <;> grind)

theorem dtr32Chain_sound (s : State) : (dtr32Chain s).Sound s := by
  unfold dtr32Chain
  split
  · constructor <;> (intros; simp_all)
  · exact dcc32UserChain_sound s true

theorem tdra32Chain_sound (s : State) : (tdra32Chain s).Sound s := by
  have := @a64EL2_spec s
  have := @a32EL2_spec s
  constructor <;>
    (intros; unfold tdra32Chain user32First at *; unfold State.trapTarget; cases he : s.ps.el <;> grind)

theorem tdosa32Chain_sound (s : State) (c2 c3 : Bool) : (tdosa32Chain c2 c3 s).Sound s := by
  have := @a64EL3_spec s
  have := @a64EL2_spec s
  have := @a32EL2_spec s
  constructor <;> (intros; unfold tdosa32Chain at *; unfold State.trapTarget; cases he : s.ps.el <;> grind)

theorem pmuChain_sound (s : State) (present : Bool) (user : UserGate) (fgt : Option (Bool × Nat))
    (range : Option Decision) (pmcr : Bool) {acc : Decision} (h1 : acc.Sound s)
    (h2 : ∀ d, range = some d → d.Sound s) : (pmuChain present user fgt range pmcr acc s).Sound s := by
  intro T h
  have := @a64EL3_spec s
  have := @a64EL2_spec s
  have hf0 : fgt.any (fun p => s.fgt0 p.1 p.2) = true → s.el2Enabled = true := by
    cases fgt with
    | none => simp
    | some p => simpa using fgt0_spec
  have hf1 : fgt.any (fun p => s.fgt1 p.1 p.2) = true → s.el2Enabled = true := by
    cases fgt with
    | none => simp
    | some p => simpa using fgt1_spec
  have h1 := h1 T
  have h2 : ∀ d, range = some d → d = .trap T → s.trapTarget T := fun d hd => h2 d hd T
  unfold pmuChain pmuTail at h
  unfold State.trapTarget at *
  cases range <;> cases he : s.ps.el <;> grind

theorem hpmnCheck_sound (s : State) (n : Nat) (hg : s.ps.el = .el0 ∨ s.ps.el = .el1) :
    ∀ d, s.hpmnCheck n = some d → d.Sound s := by
  intro d hd T h
  have := @a64EL2_spec s
  unfold State.hpmnCheck at hd
  unfold State.trapTarget
  grind

theorem counterChoices_sound (s : State) (n : Nat) (indirect type : Bool) :
    ∀ d ∈ s.counterChoices n indirect type, d.Sound s := by
  intro d hd T h
  subst h
  unfold State.counterChoices at hd
  unfold State.atGuestLevel at hd
  unfold State.trapTarget
  grind

theorem counterAccess_sound (s : State) (n : Nat) (indirect type checked : Bool) :
    (s.counterAccess n indirect type checked).Sound s := by
  unfold State.counterAccess
  split
  · exact access_sound s n
  · simp only [List.getD_eq_getElem?_getD]
    intro T h
    cases hx : (s.counterChoices n indirect type)[s.freeBelow .counterChoice
        (s.counterChoices n indirect type).length]? with
    | none => rw [hx] at h; cases h
    | some d => rw [hx] at h; exact counterChoices_sound s n indirect type d (List.mem_of_getElem? hx) T h

theorem pmuChain_guest_range (s : State) (present : Bool) (user : UserGate) (fgt : Option (Bool × Nat))
    (range : Option Decision) (pmcr : Bool) (acc : Decision) (hg : ¬ (s.ps.el = .el0 ∨ s.ps.el = .el1)) :
    pmuChain present user fgt range pmcr acc s = pmuChain present user fgt none pmcr acc s := by
  unfold pmuChain
  cases he : s.ps.el <;> grind

theorem pmu32Chain_guest_range (s : State) (present t9 : Bool) (user : UserGate) (fgt : Option (Bool × Nat))
    (range : Option Decision32) (pmcr : Bool) (acc : Decision32) (hg : s.ps.el ≠ .el0) :
    pmu32Chain present user t9 fgt range pmcr acc s = pmu32Chain present user t9 fgt none pmcr acc s := by
  unfold pmu32Chain
  cases he : s.ps.el <;> grind

theorem counterChain_sound (s : State) (user : UserGate) (fgt : Bool × Nat) (n : Nat) (indirect type : Bool) :
    (counterChain user fgt n indirect type s).Sound s := by
  unfold counterChain
  split
  · exact pmuChain_sound s _ _ _ _ _ (access_sound s _) (fun d hd => by cases hd)
  · by_cases hg : s.ps.el = .el0 ∨ s.ps.el = .el1
    · exact pmuChain_sound s _ _ _ _ _ (counterAccess_sound s n _ _ _) (hpmnCheck_sound s n hg)
    · rw [pmuChain_guest_range s _ _ _ _ _ _ hg]
      exact pmuChain_sound s _ _ _ _ _ (counterAccess_sound s n _ _ _) (fun d hd => by cases hd)

theorem to32_sound {s : State} {d : Decision} (h : d.Sound s) : (d.to32 s).Sound s := by
  have h2 := h .el2
  cases d with
  | trap T =>
    have hT := h T rfl
    cases T <;> unfold Decision.to32 <;> constructor <;> intros <;> grind
  | _ => unfold Decision.to32; constructor <;> intros <;> simp_all

theorem access32_sound (s : State) (k : Nat) : (Decision32.access k).Sound s := by
  constructor <;> (intros; simp_all)

theorem pmu32Traps_sound (s : State) (pmcr : Bool) {acc : Decision32} (h1 : acc.Sound s)
    (hg : s.ps.el = .el0 ∨ s.ps.el = .el1) : (pmu32Traps pmcr acc s).Sound s := by
  have := @a64EL3_spec s
  have := @a64EL2_spec s
  have := @a32EL2_spec s
  obtain ⟨ht, hh, hm⟩ := h1
  unfold pmu32Traps pmu32Tail
  generalize s.a64EL3 = a at *
  constructor <;> (intros; unfold State.trapTarget at *; grind)

theorem pmu32Chain_sound (s : State) (present t9 : Bool) (user : UserGate) (fgt : Option (Bool × Nat))
    (range : Option Decision32) (pmcr : Bool) {acc : Decision32} (h1 : acc.Sound s)
    (h2 : ∀ d, range = some d → d.Sound s) : (pmu32Chain present user t9 fgt range pmcr acc s).Sound s := by
  have := @a64EL3_spec s
  have := @a64EL2_spec s
  have := @a32EL2_spec s
  have hf0 : fgt.any (fun p => s.fgt0 p.1 p.2) = true → s.el2Enabled = true := by
    cases fgt with
    | none => simp
    | some p => simpa using fgt0_spec
  have hr : s.ps.el = .el0 ∨ s.ps.el = .el1 → (range.getD (pmu32Traps pmcr acc s)).Sound s := by
    intro hg
    cases range with
    | none => exact pmu32Traps_sound s pmcr h1 hg
    | some d => exact h2 d rfl
  have hq : s.ps.el = .el0 ∨ s.ps.el = .el1 → (pmu32Traps pmcr acc s).Sound s := pmu32Traps_sound s pmcr h1
  unfold pmu32Chain pmu32Tail
  generalize range.getD (pmu32Traps pmcr acc s) = r at *
  generalize pmu32Traps pmcr acc s = q at *
  generalize fgt.any (fun p => s.fgt0 p.1 p.2) = f at *
  cases he : s.ps.el
  · obtain ⟨ht, hh, hm⟩ := hr (.inl he)
    constructor <;> (intros; unfold State.trapTarget at *; grind)
  · obtain ⟨ht, hh, hm⟩ := hq (.inr he)
    constructor <;> (intros; unfold State.trapTarget at *; grind)
  · obtain ⟨ht, hh, hm⟩ := h1
    constructor <;> (intros; unfold State.trapTarget at *; grind)
  · obtain ⟨ht, hh, hm⟩ := h1
    constructor <;> (intros; unfold State.trapTarget at *; grind)

theorem counter32Chain_sound (s : State) (user : UserGate) (t9 : Bool) (fgt : Bool × Nat) (n : Nat)
    (indirect type : Bool) : (counter32Chain user t9 fgt n indirect type s).Sound s := by
  unfold counter32Chain
  split
  · exact pmu32Chain_sound s _ _ _ _ _ _ (access32_sound s _) (fun d hd => by cases hd)
  · simp only
    have ha := to32_sound (counterAccess_sound s n indirect type (s.rangeCheckOn && decide (s.ps.el = .el0)))
    by_cases hg : s.ps.el = .el0
    · refine pmu32Chain_sound s _ _ _ _ _ _ ha (fun d hd => ?_)
      obtain ⟨d', hd', rfl⟩ := Option.map_eq_some_iff.mp hd
      exact to32_sound (hpmnCheck_sound s n (.inl hg) d' hd')
    · rw [pmu32Chain_guest_range s _ _ _ _ _ _ _ hg]
      exact pmu32Chain_sound s _ _ _ _ _ _ ha (fun d hd => by cases hd)

theorem speChain_sound (s : State) (control read : Bool) (b : Nat) {acc : Decision} (h1 : acc.Sound s) :
    (speChain control read b acc s).Sound s := by
  intro T h
  have := @a64EL3_spec s
  have := @a64EL2_spec s
  have := @fgt1_spec s
  have h1 := h1 T
  unfold speChain State.nspbTrap at h
  unfold State.trapTarget at *
  cases he : s.ps.el <;> grind

theorem nvThen_sound (s : State) (c : Bool) (off : Nat) : (nvThen c off).Sound s := by
  unfold nvThen
  split; exacts [nvMem_sound s _, access_sound s _]

theorem pmbidrChain_sound (s : State) : (pmbidrChain s).Sound s := by
  intro T h
  unfold pmbidrChain at h
  grind

theorem trfcrChain_sound (s : State) (read : Bool) : (trfcrChain read s).Sound s := by
  intro T h
  have := @a64EL3_spec s
  have := @a64EL2_spec s
  have := @fgt1_spec s
  unfold trfcrChain nvThen at h
  unfold State.trapTarget
  cases he : s.ps.el <;> grind

theorem trfcr32Chain_sound (s : State) : (trfcr32Chain s).Sound s := by
  have := @a64EL3_spec s
  have := @a32EL3_spec s
  have := @a64EL2_spec s
  have := @a32EL2_spec s
  constructor <;> (intros; unfold trfcr32Chain at *; unfold State.trapTarget; cases he : s.ps.el <;> grind)

/-! ### When a check stops an access to a Performance Monitors register -/

theorem gateOpen_el0 {s : State} {a : PmuAccess} (h : s.gateOpen a = true) (he : s.ps.el = .el0) :
    a.gate ≠ .undefinedAtEl0 ∧ s.gateClosed a.gate = false := by
  unfold State.gateOpen at h
  simpa [he] using h

theorem pmuChain_fine {s : State} {a : PmuAccess} (hp : a.present = true) (ho : s.gateOpen a = true)
    (hf : s.fineTrap a = true) (range : Option Decision) (acc : Decision) :
    pmuChain a.present a.gate a.fgt range a.pmcr acc s = .trap .el2 := by
  unfold State.fineTrap at hf
  unfold pmuChain
  have := gateOpen_el0 ho
  cases he : s.ps.el <;> grind

theorem pmuChain_el3 {s : State} {a : PmuAccess} (hp : a.present = true) (ho : s.gateOpen a = true)
    (hq : s.el2Quiet a = true) (he : s.ps.el ≠ .el3) (h3 : s.a64EL3 = true) (ht : s.tpm3 = true)
    {range : Option Decision} (hr : s.ps.el = .el0 ∨ s.ps.el = .el1 → range = none) (acc : Decision) :
    pmuChain a.present a.gate a.fgt range a.pmcr acc s = .trap .el3 := by
  rw [pmuChain_range acc hr]
  unfold State.el2Quiet State.tpmTrap State.fineTrap at hq
  unfold pmuChain pmuTail
  have := gateOpen_el0 ho
  cases he : s.ps.el <;> simp_all <;> grind

theorem counterFree_range {s : State} {a : PmuAccess} {n : Nat} (hq : s.el2Quiet a = true) (ha : a.counter = some n)
    (hg : s.ps.el = .el0 ∨ s.ps.el = .el1) : s.counterOpen n = true := by
  unfold State.el2Quiet State.counterFree at hq
  rcases hg with hg | hg <;> simp_all

theorem pmu32Chain_el2 {s : State} {a : PmuAccess} (hp : a.present = true) (ho : s.gateOpen a = true)
    (hf : s.t9Trap a = true ∨ (s.ps.el = .el0 ∧ s.fineTrap a = true) ∨
      (s.ps.el = .el0 ∧ s.counterFree a = true ∧ s.el2Enabled = true ∧ s.tpmTrap a = true))
    {range : Option Decision32} (hr : s.ps.el = .el0 → s.counterFree a = true → range = none) (acc : Decision32) :
    pmu32Chain a.present a.gate a.t9 a.fgt range a.pmcr acc s = .trap .el2 ∨
      (pmu32Chain a.present a.gate a.t9 a.fgt range a.pmcr acc s = .hypTrap ∧ s.el2A32 = true) := by
  unfold State.t9Trap State.tpmTrap State.fineTrap at hf
  unfold pmu32Chain pmu32Traps
  have := gateOpen_el0 ho
  have := @a64EL2_spec s
  have := @a32EL2_spec s
  have := @el2Enabled_eq s
  cases he : s.ps.el <;> cases h64 : s.a64EL2 <;> cases h32 : s.a32EL2 <;> rcases hf with hf | hf | hf <;>
    simp_all <;> grind

theorem pmu32Chain_el3 {s : State} {a : PmuAccess} (hp : a.present = true) (ho : s.gateOpen a = true)
    (hq : s.el2Quiet32 a = true) (he : s.ps.el ≠ .el3) (h3 : s.a64EL3 = true) (ht : s.tpm3 = true)
    {range : Option Decision32} (hr : s.ps.el = .el0 → s.counterFree a = true → range = none) (acc : Decision32) :
    pmu32Chain a.present a.gate a.t9 a.fgt range a.pmcr acc s = .trap .el3 := by
  unfold State.el2Quiet32 State.t9Trap State.tpmTrap State.fineTrap at hq
  unfold pmu32Chain pmu32Traps pmu32Tail
  have := gateOpen_el0 ho
  have := @el2Enabled_eq s
  cases he : s.ps.el <;> simp_all <;> grind
end Sys2Proof.Machine
end

