-- ==== Sys2Proof/Laws/Effects.lean ====
section
/-! SUPPORT. Everything an instruction of the table can do: it takes an exception, it halts, or it performs an access
whose effects are listed. -/

namespace Sys2Proof.Machine

/-- The exceptions that an instruction may take. -/
inductive State.Raises (s : State) : State → Prop where
  | undefined : s.Raises s.takeUndefined
  | trap (T : EL) (ec : BitVec 6) (iss : BitVec 25) : s.trapTarget T → s.Raises (s.takeTrap T ec iss)
  | hyp (esr : Word) : s.trapTarget .el2 → s.el2A32 = true → s.Raises (s.takeHyp esr)
  | monitor : s.trapTarget .el3 → s.inp.el3A32 = true → s.Raises (s.takeMode .el3)

/-- What an access of the instruction leaves as it was in `s`; `u` is the state before the pc moves on. -/
structure Access (i : Instr) (s u : State) : Prop where
  cfg : u.cfg = s.cfg
  pc : u.pc = s.pc
  ps : u.ps = s.ps
  inp : u.inp = s.inp
  exc : u.exc = s.exc
  events : u.events = s.events
  draws : u.draws = s.draws
  regs : ∀ r : XReg, r ∉ i.writesX → u.getX r = s.getX r
  controls : u.ctl = { s.ctl with mdcrEl2 := u.ctl.mdcrEl2 }
  control : i.group ≠ .control → u.ctl = s.ctl
  debug : i.group ≠ .debug → u.dbg = s.dbg
  pmu : i.group ≠ .pmu → u.pmu = s.pmu
  profiling : i.group ≠ .profiling → u.spe = s.spe
  memory : i.storeAt s = none → u.mem = s.mem
  stores : ∀ p, i.storeAt s = some p → p.2 ≤ 8 ∧ s.sameMemoryBut u p.1 p.2
  wf : Memory.wf s.mem = true → Memory.wf u.mem = true
  res0 : s.cfg.res0BitsStored = false → s.ctl.mdcrEl2 &&& ~~~implMask s.cfg = 0 →
    u.ctl.mdcrEl2 &&& ~~~implMask s.cfg = 0
  pmcr : s.pmu.pmcr.extractLsb' 11 5 = s.cfg.pmcrN ∧ s.pmu.pmcr.extractLsb' 1 2 = 0 →
    u.pmu.pmcr.extractLsb' 11 5 = s.cfg.pmcrN ∧ u.pmu.pmcr.extractLsb' 1 2 = 0
  counters : s.cfg.havePMUv3p5 = false → (∀ n, n < 31 → vget s.pmu.evcntr n &&& 0xFFFFFFFF00000000 = 0) →
    ∀ n, n < 31 → vget u.pmu.evcntr n &&& 0xFFFFFFFF00000000 = 0

/-- Everything an instruction can do. -/
def OutcomeOf (i : Instr) (s t : State) : Prop := s.Raises t ∨ t = s.halt ∨ ∃ u, t = u.advance ∧ Access i s u

theorem storeAt_le {i : Instr} {s : State} {p : Word × Nat} (h : i.storeAt s = some p) : p.2 ≤ 8 := by
  have hn : ∀ (b : Bool) (w : Word), (if b then some (w, 8) else none) = some p → p.2 ≤ 8 := by
    intro b w hb
    cases b
    · cases hb
    · cases hb; exact Nat.le_refl 8
  cases i <;> first
    | exact absurd (show none = some p from h) (by simp)
    | exact hn _ _ h
    | skip
  unfold Instr.storeAt at h
  simp only at h
  split at h
  · cases h; exact (by decide : 4 ≤ 8)
  · cases h

theorem Access_debug {i : Instr} {s u : State} (hu : u = { s with x := u.x, dbg := u.dbg, mem := u.mem })
    (hx : ∀ r : XReg, r ∉ i.writesX → u.getX r = s.getX r) (hd : i.group = .debug ∨ u.dbg = s.dbg)
    (hm : u.mem = s.mem ∨ ∃ p, i.storeAt s = some p ∧ s.sameMemoryBut u p.1 p.2)
    (hw : Memory.wf s.mem = true → Memory.wf u.mem = true) : Access i s u := by
  have hb : u.mem = s.mem → ∀ a : Word, u.byteAt a = s.byteAt a := fun h a => by unfold State.byteAt; rw [h]
  constructor
  case regs => exact hx
  case debug => exact fun h => hd.resolve_left h
  case memory =>
    intro h
    rcases hm with hm | ⟨p, hp, _⟩
    · exact hm
    · rw [h] at hp; cases hp
  case stores =>
    intro p hp
    refine ⟨storeAt_le hp, ?_⟩
    rcases hm with hm | ⟨q, hq, h⟩
    · exact fun b _ => hb hm b
    · rw [hp] at hq; cases hq; exact h
  case wf => exact hw
  all_goals (rw [hu]; try simp)

theorem Access_spe {i : Instr} {s : State} (v : SpeRegs) (h : i.group = .profiling) :
    Access i s { s with spe := v } := by
  constructor
  case stores => exact fun p hp => ⟨storeAt_le hp, fun b _ => rfl⟩
  all_goals simp_all [State.getX]

theorem Access_ctl {i : Instr} {s : State} (v : Word) (h : i.group = .control)
    (hr : s.cfg.res0BitsStored = false → s.ctl.mdcrEl2 &&& ~~~implMask s.cfg = 0 → v &&& ~~~implMask s.cfg = 0) :
    Access i s { s with ctl := { s.ctl with mdcrEl2 := v } } := by
  constructor
  case stores => exact fun p hp => ⟨storeAt_le hp, fun b _ => rfl⟩
  case res0 => exact hr
  all_goals simp_all [State.getX]

theorem Access_pmu {i : Instr} {s : State} (v : PmuRegs) (h : i.group = .pmu)
    (hp : v.pmcr = s.pmu.pmcr ∨ ∃ w, v.pmcr = pmcrMerge s.cfg w)
    (hc : s.cfg.havePMUv3p5 = false → (∀ n, n < 31 → vget s.pmu.evcntr n &&& 0xFFFFFFFF00000000 = 0) →
      ∀ n, n < 31 → vget v.evcntr n &&& 0xFFFFFFFF00000000 = 0) :
    Access i s { s with pmu := v } := by
  constructor
  case stores => exact fun p hp => ⟨storeAt_le hp, fun b _ => rfl⟩
  case counters => exact hc
  case pmcr =>
    intro h
    rcases hp with hp | ⟨w, hw⟩
    · simpa [hp] using h
    · simp only [hw]
      unfold pmcrMerge pmcrStored
      constructor
      · ext j hj
        have : j = 0 ∨ j = 1 ∨ j = 2 ∨ j = 3 ∨ j = 4 := by omega
        rcases this with rfl | rfl | rfl | rfl | rfl <;> cases s.cfg.havePMUv3p5 <;> cases s.cfg.haveEL3 <;>
          cases s.cfg.havePMUv3p1 <;> cases s.cfg.haveEL2 <;> simp
      · ext j hj
        have : j = 0 ∨ j = 1 := by omega
        rcases this with rfl | rfl <;> cases s.cfg.havePMUv3p5 <;> cases s.cfg.haveEL3 <;>
          cases s.cfg.havePMUv3p1 <;> cases s.cfg.haveEL2 <;> simp
  all_goals simp_all [State.getX]

theorem Access_refl (i : Instr) (s : State) : Access i s s :=
  Access_debug rfl (fun _ _ => rfl) (.inr rfl) (.inl rfl) id

theorem Access_setX {i : Instr} (s : State) (t : XReg) (v : Word) (h : t ∈ i.writesX) : Access i s (s.setX t v) :=
  Access_debug rfl (fun r hr => by rw [State.getX_setX, if_neg (fun (e : t = r ∧ r ≠ 31) => hr (e.1 ▸ h))]) (.inr rfl) (.inl rfl) id

theorem getX_setR (s : State) (t : RReg) (r : XReg) (v : Word32) (h : t.setWidth 5 ≠ r) :
    (s.setR t v).getX r = s.getX r := by
  unfold State.setR State.getX
  split
  · rfl
  · simp only
    rw [vget_vset, if_neg]
    rintro ⟨h1, h2⟩
    apply h
    apply BitVec.eq_of_toNat_eq
    rw [← h1, BitVec.toNat_setWidth]
    have := t.isLt
    omega

theorem setR_x (s : State) (t : RReg) (v : Word32) :
    s.setR t v = { s with x := (s.setR t v).x, dbg := (s.setR t v).dbg, mem := (s.setR t v).mem } := by
  rw [State.setR_eq]

theorem Access_setR {i : Instr} (s : State) (t : RReg) (v : Word32) (h : t.setWidth 5 ∈ i.writesX) :
    Access i s (s.setR t v) :=
  Access_debug (setR_x s t v) (fun r hr => getX_setR s t r v (fun e => hr (e ▸ h)))
    (.inr (by rw [State.setR_eq])) (.inl (by rw [State.setR_eq])) (by rw [State.setR_eq]; exact id)

theorem Access_store {i : Instr} (s : State) (off v : Nat) (h : i.storeAt s = some (s.nvAddress off, 8)) (big : Bool) :
    Access i s (s.store big (s.nvAddress off) 8 v) :=
  Access_debug (by rw [State.store_eq]) (fun r _ => by rw [State.store_eq]; rfl) (.inr (by rw [State.store_eq]))
    (.inr ⟨_, h, fun b hb => State.byteAt_store_out s big _ b 8 v hb (by decide)⟩) (State.store_wf s big _ 8 v)

/-! ### The forms -/

theorem mrs_outcome {i : Instr} {e : SysEnc} {t : XReg} {d : Decision} {read : Nat → Word} {s : State}
    {after : State → State} (ht : t ∈ i.writesX) (hd : d.Sound s)
    (ha : ∀ k, Access i s ((after s).setX t (read k))) : OutcomeOf i s (mrsNext e t d read after s) := by
  cases d with
  | access k => exact .inr (.inr ⟨_, rfl, ha k⟩)
  | nop => exact .inr (.inr ⟨_, rfl, Access_refl i s⟩)
  | raz => exact .inr (.inr ⟨_, rfl, Access_setX s t 0 ht⟩)
  | undefined => exact .inl .undefined
  | trap T => exact .inl (.trap T _ _ (hd T rfl))
  | halt => exact .inr (.inl rfl)
  | nvMem off => exact .inr (.inr ⟨_, rfl, Access_setX s t _ ht⟩)

theorem msr_outcome {i : Instr} {e : SysEnc} {t : XReg} {d : Decision} {write : Nat → Word → State} {s : State}
    (hd : d.Sound s) (ha : ∀ k, Access i s (write k (s.getX t)))
    (hn : ∀ off, d = .nvMem off → i.storeAt s = some (s.nvAddress off, 8)) :
    OutcomeOf i s (msrNext e t d write s) := by
  cases d with
  | access k => exact .inr (.inr ⟨_, rfl, ha k⟩)
  | nop => exact .inr (.inr ⟨_, rfl, Access_refl i s⟩)
  | raz => exact .inr (.inr ⟨_, rfl, Access_refl i s⟩)
  | undefined => exact .inl .undefined
  | trap T => exact .inl (.trap T _ _ (hd T rfl))
  | halt => exact .inr (.inl rfl)
  | nvMem off => exact .inr (.inr ⟨_, rfl, Access_store s off _ (hn off rfl) _⟩)

theorem outcome32 {i : Instr} {c : Cond} {ec : BitVec 6} {iss : BitVec 25} {d : Decision32} {acc : Nat → State}
    {zero s : State} (hd : d.Sound s) (ha : s.condPassed c = true → ∀ k, d = .access k → Access i s (acc k))
    (hz : Access i s zero) : OutcomeOf i s (next32 c ec iss d acc zero s) := by
  rcases next32_cases c ec iss d acc zero s with ⟨hc, k, hk, h⟩ | ⟨_, _, h⟩ | h | ⟨_, h⟩ | ⟨T, hT, h⟩ | ⟨hT, h⟩ |
    ⟨hT, h⟩ | ⟨hT, h⟩ <;> rw [h]
  · exact .inr (.inr ⟨_, rfl, ha hc k hk⟩)
  · exact .inr (.inr ⟨_, rfl, hz⟩)
  · exact .inr (.inr ⟨_, rfl, Access_refl i s⟩)
  · exact .inl .undefined
  · exact .inl (.trap T _ _ (hd.trap T hT))
  · exact .inl (.hyp _ (hd.hyp (.inl hT)).1 (hd.hyp (.inl hT)).2)
  · exact .inl (.hyp _ (hd.hyp (.inr hT)).1 (hd.hyp (.inr hT)).2)
  · exact .inl (.monitor (hd.monitor hT).1 (hd.monitor hT).2)

/-! ### When a write goes to memory -/

theorem mdcrChain_nv (s : State) (off : Nat) : mdcrChain s ≠ .nvMem off := by
  unfold mdcrChain; cases he : s.ps.el <;> grind

theorem dccUserChain_nv (s : State) (off : Nat) : dccUserChain s ≠ .nvMem off := by
  unfold dccUserChain dccEl0 dccEl1 dccTail; cases he : s.ps.el <;> grind

theorem dccChain_nv (s : State) (off : Nat) : dccChain s ≠ .nvMem off := by
  unfold dccChain dccEl1 dccTail; cases he : s.ps.el <;> grind

theorem dtrChain_nv (s : State) (off : Nat) : dtrChain s ≠ .nvMem off := by
  unfold dtrChain
  have := dccUserChain_nv s off
  grind

theorem tdaChain_nv (s : State) (read : Bool) (b off : Nat) {acc acc' : Decision} (h : acc ≠ .nvMem off)
    (h' : acc' ≠ .nvMem off) : tdaChain read b acc acc' s ≠ .nvMem off := by
  unfold tdaChain tdaTail; cases he : s.ps.el <;> grind

theorem breakChain_nv (s : State) (read : Bool) (b count off : Nat) (n : BitVec 4) :
    breakChain read b n count s ≠ .nvMem off := by
  unfold breakChain tdaChain tdaTail; cases he : s.ps.el <;> grind

theorem tdosaChain_nv (s : State) (read : Bool) (b off : Nat) (cf c2 c3 : Bool) :
    tdosaChain read b cf c2 c3 s ≠ .nvMem off := by
  unfold tdosaChain; cases he : s.ps.el <;> grind

theorem counterAccess_nv (s : State) (n off : Nat) (indirect type checked : Bool) :
    s.counterAccess n indirect type checked ≠ .nvMem off := by
  unfold State.counterAccess
  split
  · simp
  · simp only [List.getD_eq_getElem?_getD]
    cases hx : (s.counterChoices n indirect type)[s.freeBelow .counterChoice
        (s.counterChoices n indirect type).length]? with
    | none => simp
    | some d =>
      have hd := List.mem_of_getElem? hx
      unfold State.counterChoices at hd
      simp only [Option.getD_some]
      grind

theorem pmuChain_nv (s : State) (present : Bool) (user : UserGate) (fgt : Option (Bool × Nat)) (off : Nat)
    (range : Option Decision) (pmcr : Bool) {acc : Decision} (h : acc ≠ .nvMem off)
    (h2 : ∀ d, range = some d → d ≠ .nvMem off) : pmuChain present user fgt range pmcr acc s ≠ .nvMem off := by
  unfold pmuChain pmuTail; cases range <;> cases he : s.ps.el <;> grind

theorem counterChain_nv (s : State) (user : UserGate) (fgt : Bool × Nat) (n off : Nat) (indirect type : Bool) :
    counterChain user fgt n indirect type s ≠ .nvMem off := by
  unfold counterChain
  split
  · exact pmuChain_nv s _ _ _ _ _ _ (by simp) (fun d hd => by cases hd)
  · refine pmuChain_nv s _ _ _ _ _ _ (counterAccess_nv s _ _ _ _ _) (fun d hd => ?_)
    unfold State.hpmnCheck at hd
    grind

theorem mdscrChain_nv {s : State} {off : Nat} (h : mdscrChain false s = .nvMem off) :
    off = 0x158 ∧ (s.redirectAny && s.tdaOpen false 4) = true := by
  unfold mdscrChain tdaChain tdaTail State.tdx State.nvAny at h
  unfold State.redirectAny State.tdaOpen
  cases he : s.ps.el <;> grind

theorem speChain_nv {s : State} {control read c : Bool} {bit o off : Nat}
    (h : speChain control read bit (nvThen c o) s = .nvMem off) :
    off = o ∧ c = true ∧ s.ps.el = .el1 ∧ s.speOpen control read bit = true := by
  have hn : s.speOpen control read bit = (s.cfg.haveSPE && match s.ps.el with
      | .el0 => false
      | .el1 => !s.fgt1 read bit && !(s.a64EL2 && control) && !s.nspbTrap
      | .el2 => !s.nspbTrap
      | .el3 => true) := rfl
  rw [hn]
  unfold speChain nvThen at h
  clear hn
  generalize s.nspbTrap = b at *
  cases he : s.ps.el <;> simp only [he] at h ⊢ <;> grind

theorem speAccess_nv (s : State) (control read : Bool) (bit off : Nat) :
    speChain control read bit (.access 0) s ≠ .nvMem off := by
  unfold speChain; cases he : s.ps.el <;> grind

theorem trfcrChain_nv {s : State} {off : Nat} (h : trfcrChain false s = .nvMem off) :
    off = 0x880 ∧ (s.redirectAll && s.trfcrOpen false) = true := by
  unfold trfcrChain nvThen State.nvAll at h
  unfold State.redirectAll State.trfcrOpen
  cases he : s.ps.el <;> grind

theorem storeAny {s : State} {control c' : Bool} {bit o off : Nat}
    (h : speChain control false bit (nvThen s.nvAny o) s = .nvMem off) (hc : c' = control) :
    (if (s.redirectAny && s.speOpen c' false bit) = true then some (s.nvAddress o, 8) else none) =
      some (s.nvAddress off, 8) := by
  obtain ⟨rfl, h2, h3, h4⟩ := speChain_nv h
  subst hc
  have : s.redirectAny = true := by unfold State.redirectAny; unfold State.nvAny at h2; grind
  simp [this, h4]

theorem storeAll {s : State} {control c' : Bool} {bit o off : Nat}
    (h : speChain control false bit (nvThen s.nvAll o) s = .nvMem off) (hc : c' = control) :
    (if (s.redirectAll && s.speOpen c' false bit) = true then some (s.nvAddress o, 8) else none) =
      some (s.nvAddress off, 8) := by
  obtain ⟨rfl, h2, h3, h4⟩ := speChain_nv h
  subst hc
  have : s.redirectAll = true := by unfold State.redirectAll; unfold State.nvAll at h2; grind
  simp [this, h4]

/-! ### The accesses that are more than storage -/

theorem Access_dbg {i : Instr} (s : State) (v : DebugRegs) (h : i.group = .debug) : Access i s { s with dbg := v } :=
  Access_debug rfl (fun _ _ => rfl) (.inl h) (.inl rfl) id

theorem Access_dtr_setX {i : Instr} (s : State) (t : XReg) (v : Word) (h : t ∈ i.writesX) (hg : i.group = .debug) :
    Access i s (s.dtrRxTaken.setX t v) :=
  Access_debug rfl
    (fun r hr => by rw [State.getX_setX, if_neg (fun (e : t = r ∧ r ≠ 31) => hr (e.1 ▸ h))]; rfl) (.inl hg) (.inl rfl) id

theorem Access_dtr_setR {i : Instr} (s : State) (t : RReg) (v : Word32) (h : t.setWidth 5 ∈ i.writesX)
    (hg : i.group = .debug) : Access i s (s.dtrRxTaken.setR t v) :=
  Access_debug (by rw [State.setR_eq]; rfl)
    (fun r hr => by rw [getX_setR _ t r v (fun e => hr (e ▸ h))]; rfl) (.inl hg)
    (.inl (by rw [State.setR_eq]; rfl)) (by rw [State.setR_eq]; exact id)

theorem Access_mdcr {i : Instr} (s : State) (v : Word) (h : i.group = .control) : Access i s (s.mdcrWrite v) := by
  refine Access_ctl _ h (fun h1 h2 => ?_)
  unfold mdcrMerge
  rw [h1]
  split
  · exact h2
  · simp only [Bool.false_eq_true, if_false]
    ext j hj
    simp

theorem Access_hdcr {i : Instr} (s : State) (v : Word32) (h : i.group = .control) : Access i s (s.hdcrWrite v) := by
  unfold State.hdcrWrite
  simp only
  split
  · exact Access_refl i s
  · refine Access_ctl _ h (fun _ h2 => ?_)
    generalize implMask s.cfg = m at *
    generalize s.hdcrMask = k at *
    generalize s.ctl.mdcrEl2 = o at *
    ext j hj
    have h3 := congrArg (fun w => w.getLsbD j) h2
    simp at h3 ⊢
    grind

theorem counterValue_high {c : Config} (h : c.havePMUv3p5 = false) (v : Word) :
    counterValue c v &&& 0xFFFFFFFF00000000 = 0 := by
  unfold counterValue zext64 low32
  rw [h]
  simp only [Bool.false_eq_true, if_false]
  have hk : ∀ j < 32, (0xFFFFFFFF00000000 : BitVec 64).getLsbD j = false := by decide
  apply BitVec.eq_of_getLsbD_eq
  intro j hj
  rw [BitVec.getLsbD_and]
  by_cases hj2 : j < 32
  · rw [hk j hj2, Bool.and_false]; exact (BitVec.getLsbD_zero).symm
  · rw [BitVec.getLsbD_setWidth, BitVec.getLsbD_of_ge _ _ (by omega), Bool.and_false, Bool.false_and]
    exact (BitVec.getLsbD_zero).symm

theorem vset_high {v : Vector Word 31} {w : Word} (k : Nat) (hw : w &&& 0xFFFFFFFF00000000 = 0)
    (h : ∀ n, n < 31 → vget v n &&& 0xFFFFFFFF00000000 = 0) :
    ∀ n, n < 31 → vget (vset v k w) n &&& 0xFFFFFFFF00000000 = 0 := by
  intro n hn
  rw [vget_vset]
  split
  · exact hw
  · exact h n hn

theorem resetSelected_high {v : Vector Word 31} (f : Nat → Bool) (k : Nat)
    (h : ∀ n, n < 31 → vget v n &&& 0xFFFFFFFF00000000 = 0) :
    ∀ n, n < 31 → vget (resetSelected v f k) n &&& 0xFFFFFFFF00000000 = 0 := by
  induction k with
  | zero => exact h
  | succ k ih =>
    unfold resetSelected
    simp only
    split
    · exact vset_high k (by decide) ih
    · exact ih

theorem Access_pmcr {i : Instr} (s : State) (v : Word) (h : i.group = .pmu) : Access i s (s.pmcrWrite v) := by
  refine Access_pmu _ h (.inr ⟨v, rfl⟩) (fun _ hc => ?_)
  simp only
  split
  · exact resetSelected_high _ _ hc
  · exact hc

theorem Access_counter {i : Instr} (s : State) (k : Nat) (v : Word) (h : i.group = .pmu) :
    Access i s (s.counterWrite k v) :=
  Access_pmu _ h (.inl rfl) (fun h5 hc => vset_high k (counterValue_high h5 v) hc)

theorem Access_type {i : Instr} (s : State) (k : Nat) (v : Word) (h : i.group = .pmu) :
    Access i s (s.typeWrite k v) := by
  unfold State.typeWrite
  split <;> exact Access_pmu _ h (.inl rfl) (fun _ hc => hc)

theorem Access_pmscr {i : Instr} (s : State) (v : Word) (h : i.group = .profiling) : Access i s (s.pmscrWrite v) := by
  unfold State.pmscrWrite
  split <;> exact Access_spe _ h

theorem Access_trfcr {i : Instr} (s : State) (v : Word) (h : i.group = .profiling) : Access i s (s.trfcrWrite v) := by
  unfold State.trfcrWrite
  split <;> exact Access_spe _ h

@[simp] theorem countsFrom_thisPE (s : State) (n : Nat) : s.countsFrom n .thisPE = true := rfl

@[simp] theorem countsFrom_affinityPE (s : State) (n : Nat) : s.countsFrom n .affinityPE = s.effMt n := rfl

/-- An event either increments the counter, which then counts events of its source, or changes nothing. -/
theorem countEvent_cases (s : State) (n : Nat) (src : EventSource) :
    (s.countEvent n src = s.incrementCounter n ∧ n < s.pmcrN ∧ s.countsFrom n src = true ∧
      s.counterEnabled n = true ∧ s.counterAllowed n = true) ∨
    (s.countEvent n src = s ∧
      ¬(n < s.pmcrN ∧ s.countsFrom n src = true ∧ s.counterEnabled n = true ∧ s.counterAllowed n = true)) := by
  unfold State.countEvent
  split <;> simp_all

theorem countEvent_eq (s : State) (n : Nat) (src : EventSource) :
    s.countEvent n src = { s with pmu := (s.countEvent n src).pmu } ∧
      (s.countEvent n src).pmu.pmcr = s.pmu.pmcr := by
  rcases countEvent_cases s n src with ⟨h, -⟩ | ⟨h, -⟩ <;> rw [h] <;> exact ⟨rfl, rfl⟩

theorem countEvent_high (s : State) (n : Nat) (src : EventSource) (h5 : s.cfg.havePMUv3p5 = false)
    (hc : ∀ n, n < 31 → vget s.pmu.evcntr n &&& 0xFFFFFFFF00000000 = 0) :
    ∀ k, k < 31 → vget (s.countEvent n src).pmu.evcntr k &&& 0xFFFFFFFF00000000 = 0 := by
  rcases countEvent_cases s n src with ⟨h, -⟩ | ⟨h, -⟩ <;> rw [h]
  · exact vset_high n (counterValue_high h5 _) hc
  · exact hc

theorem softwareIncrements_eq (v : Word) (k : Nat) (s : State) :
    softwareIncrements v k s = { s with pmu := (softwareIncrements v k s).pmu } ∧
      (softwareIncrements v k s).pmu.pmcr = s.pmu.pmcr ∧
      (s.cfg.havePMUv3p5 = false → (∀ n, n < 31 → vget s.pmu.evcntr n &&& 0xFFFFFFFF00000000 = 0) →
        ∀ n, n < 31 → vget (softwareIncrements v k s).pmu.evcntr n &&& 0xFFFFFFFF00000000 = 0) := by
  induction k with
  | zero => exact ⟨rfl, rfl, fun _ h => h⟩
  | succ k ih =>
    obtain ⟨h1, h2, h3⟩ := ih
    unfold softwareIncrements
    simp only
    generalize softwareIncrements v k s = u at *
    split
    · obtain ⟨h4, h5⟩ := countEvent_eq u k .thisPE
      refine ⟨?_, by rw [h5, h2], fun hp hc => ?_⟩
      · rw [h4, h1]
      · exact countEvent_high u k .thisPE (by rw [h1]; exact hp) (h3 hp hc)
    · exact ⟨h1, h2, h3⟩

theorem Access_swinc {i : Instr} (s : State) (v : Word) (h : i.group = .pmu) :
    Access i s (s.softwareIncrement v) := by
  unfold State.softwareIncrement
  obtain ⟨h1, h2, h3⟩ := softwareIncrements_eq (v &&& s.visibleMask) s.pmcrN s
  rw [h1]
  exact Access_pmu _ h (.inl h2) h3

theorem memWriteBack_x (s : State) (m : MemOperand) (v : Word32) :
    s.memWriteBack m v = { s with x := (s.memWriteBack m v).x } := by
  unfold State.memWriteBack
  split
  · exact State.setR_eq s m.rn v
  · rfl

theorem memWriteBack_getX (s : State) (m : MemOperand) (v : Word32) (r : XReg)
    (h : r ∉ if m.w then [m.rn.setWidth 5] else ([] : List XReg)) : (s.memWriteBack m v).getX r = s.getX r := by
  unfold State.memWriteBack
  split
  · rename_i hw
    rw [hw, if_pos rfl, List.mem_singleton] at h
    exact getX_setR s m.rn r v (fun e => h e.symm)
  · rfl

end Sys2Proof.Machine
end

