-- ==== Sys2Proof/Laws/Form.lean ====
section
/-! SUPPORT. Laws of the words: the fields of a word that was built from fields are those fields. -/

namespace Sys2Proof.Laws

/-- An A64 word has the fields it was built from (30_encoding.md R62). -/
theorem parseA64_word (read : Bool) (op0 : BitVec 2) (op1 : BitVec 3) (crn crm : BitVec 4) (op2 : BitVec 3) (t : XReg)
    (h : op0.getLsbD 1 = true) :
    Form.parseA64 (Form.word (.a64 read ⟨op0, op1, crn, crm, op2⟩ t)) = some (.a64 read ⟨op0, op1, crn, crm, op2⟩ t) := by
  let f : Form := .a64 read ⟨op0, op1, crn, crm, op2⟩ t
  have e0 : f.word.extractLsb' 22 10 = 0b1101010100 := by
    simp only [f, Form.word]; ext i hi
    simp only [BitVec.getElem_extractLsb', BitVec.getLsbD_append]; interval_cases i <;> simp
  have e1 : f.word.extractLsb' 19 2 = op0 := by
    simp only [f, Form.word]; ext i hi
    simp only [BitVec.getElem_extractLsb', BitVec.getLsbD_append]; interval_cases i <;> simp
  have e2 : f.word.extractLsb' 16 3 = op1 := by
    simp only [f, Form.word]; ext i hi
    simp only [BitVec.getElem_extractLsb', BitVec.getLsbD_append]; interval_cases i <;> simp
  have e3 : f.word.extractLsb' 12 4 = crn := by
    simp only [f, Form.word]; ext i hi
    simp only [BitVec.getElem_extractLsb', BitVec.getLsbD_append]; interval_cases i <;> simp
  have e4 : f.word.extractLsb' 8 4 = crm := by
    simp only [f, Form.word]; ext i hi
    simp only [BitVec.getElem_extractLsb', BitVec.getLsbD_append]; interval_cases i <;> simp
  have e5 : f.word.extractLsb' 5 3 = op2 := by
    simp only [f, Form.word]; ext i hi
    simp only [BitVec.getElem_extractLsb', BitVec.getLsbD_append]; interval_cases i <;> simp
  have e6 : f.word.extractLsb' 0 5 = t := by
    simp only [f, Form.word]; ext i hi
    simp only [BitVec.getElem_extractLsb', BitVec.getLsbD_append]; interval_cases i <;> simp
  have b0 : f.word.getLsbD 20 = true := by simp only [f, Form.word, BitVec.getLsbD_append]; simp [h]
  have b1 : f.word.getLsbD 21 = read := by simp only [f, Form.word, BitVec.getLsbD_append]; simp
  change Form.parseA64 f.word = some f
  simp only [Form.parseA64, bitField, e0, e1, e2, e3, e4, e5, e6, b0, b1, and_self, if_true]; rfl

/-- An MRC or MCR word has the fields it was built from (30_encoding.md R65). -/
theorem parseA32_word_cp (read : Bool) (cond : Cond) (coproc : BitVec 4) (opc1 : BitVec 3) (crn crm : BitVec 4)
    (opc2 : BitVec 3) (t : RReg) :
    Form.parseA32 (Form.word (.cp read cond ⟨coproc, opc1, crn, crm, opc2⟩ t))
      = some (.cp read cond ⟨coproc, opc1, crn, crm, opc2⟩ t) := by
  let f : Form := .cp read cond ⟨coproc, opc1, crn, crm, opc2⟩ t
  have e0 : f.word.extractLsb' 24 4 = 0b1110 := by
    simp only [f, Form.word]; ext i hi
    simp only [BitVec.getElem_extractLsb', BitVec.getLsbD_append]; interval_cases i <;> simp
  have e1 : f.word.extractLsb' 28 4 = cond := by
    simp only [f, Form.word]; ext i hi
    simp only [BitVec.getElem_extractLsb', BitVec.getLsbD_append]; interval_cases i <;> simp
  have e2 : f.word.extractLsb' 8 4 = coproc := by
    simp only [f, Form.word]; ext i hi
    simp only [BitVec.getElem_extractLsb', BitVec.getLsbD_append]; interval_cases i <;> simp
  have e3 : f.word.extractLsb' 21 3 = opc1 := by
    simp only [f, Form.word]; ext i hi
    simp only [BitVec.getElem_extractLsb', BitVec.getLsbD_append]; interval_cases i <;> simp
  have e4 : f.word.extractLsb' 16 4 = crn := by
    simp only [f, Form.word]; ext i hi
    simp only [BitVec.getElem_extractLsb', BitVec.getLsbD_append]; interval_cases i <;> simp
  have e5 : f.word.extractLsb' 0 4 = crm := by
    simp only [f, Form.word]; ext i hi
    simp only [BitVec.getElem_extractLsb', BitVec.getLsbD_append]; interval_cases i <;> simp
  have e6 : f.word.extractLsb' 5 3 = opc2 := by
    simp only [f, Form.word]; ext i hi
    simp only [BitVec.getElem_extractLsb', BitVec.getLsbD_append]; interval_cases i <;> simp
  have e7 : f.word.extractLsb' 12 4 = t := by
    simp only [f, Form.word]; ext i hi
    simp only [BitVec.getElem_extractLsb', BitVec.getLsbD_append]; interval_cases i <;> simp
  have b0 : f.word.getLsbD 4 = true := by simp only [f, Form.word, BitVec.getLsbD_append]; simp
  have b1 : f.word.getLsbD 20 = read := by simp only [f, Form.word, BitVec.getLsbD_append]; simp
  change Form.parseA32 f.word = some f
  simp only [Form.parseA32, bitField, e0, e1, e2, e3, e4, e5, e6, e7, b0, b1, and_self, if_true]; rfl

/-- An MRRC or MCRR word has the fields it was built from (30_encoding.md R66). -/
theorem parseA32_word_cp64 (read : Bool) (cond : Cond) (coproc opc1 crm : BitVec 4) (t t2 : RReg) :
    Form.parseA32 (Form.word (.cp64 read cond ⟨coproc, opc1, crm⟩ t t2)) = some (.cp64 read cond ⟨coproc, opc1, crm⟩ t t2) := by
  let f : Form := .cp64 read cond ⟨coproc, opc1, crm⟩ t t2
  have e0 : f.word.extractLsb' 24 4 = 0b1100 := by
    simp only [f, Form.word]; ext i hi
    simp only [BitVec.getElem_extractLsb', BitVec.getLsbD_append]; interval_cases i <;> simp
  have e1 : f.word.extractLsb' 21 7 = 0b1100010 := by
    simp only [f, Form.word]; ext i hi
    simp only [BitVec.getElem_extractLsb', BitVec.getLsbD_append]; interval_cases i <;> simp
  have e2 : f.word.extractLsb' 28 4 = cond := by
    simp only [f, Form.word]; ext i hi
    simp only [BitVec.getElem_extractLsb', BitVec.getLsbD_append]; interval_cases i <;> simp
  have e3 : f.word.extractLsb' 8 4 = coproc := by
    simp only [f, Form.word]; ext i hi
    simp only [BitVec.getElem_extractLsb', BitVec.getLsbD_append]; interval_cases i <;> simp
  have e4 : f.word.extractLsb' 4 4 = opc1 := by
    simp only [f, Form.word]; ext i hi
    simp only [BitVec.getElem_extractLsb', BitVec.getLsbD_append]; interval_cases i <;> simp
  have e5 : f.word.extractLsb' 0 4 = crm := by
    simp only [f, Form.word]; ext i hi
    simp only [BitVec.getElem_extractLsb', BitVec.getLsbD_append]; interval_cases i <;> simp
  have e6 : f.word.extractLsb' 12 4 = t := by
    simp only [f, Form.word]; ext i hi
    simp only [BitVec.getElem_extractLsb', BitVec.getLsbD_append]; interval_cases i <;> simp
  have e7 : f.word.extractLsb' 16 4 = t2 := by
    simp only [f, Form.word]; ext i hi
    simp only [BitVec.getElem_extractLsb', BitVec.getLsbD_append]; interval_cases i <;> simp
  have b0 : f.word.getLsbD 20 = read := by simp only [f, Form.word, BitVec.getLsbD_append]; simp
  change Form.parseA32 f.word = some f
  simp only [Form.parseA32, bitField, e0, e1, e2, e3, e4, e5, e6, e7, b0, if_true,
    show ((0b1100 : BitVec 4) = 0b1110) = False by decide, false_and, if_false]; rfl

/-- An LDC or STC word has the fields it was built from (30_encoding.md R66). -/
theorem parseA32_word_ldst (load : Bool) (cond : Cond) (p u w : Bool) (rn : RReg) (imm8 : BitVec 8) :
    Form.parseA32 (Form.word (.ldst load cond p u w rn imm8)) = some (.ldst load cond p u w rn imm8) := by
  let f : Form := .ldst load cond p u w rn imm8
  have e0 : f.word.extractLsb' 25 3 = 0b110 := by
    simp only [f, Form.word]; ext i hi
    simp only [BitVec.getElem_extractLsb', BitVec.getLsbD_append]; interval_cases i <;> simp
  have e1 : f.word.extractLsb' 8 8 = 0x5E := by
    simp only [f, Form.word]; ext i hi
    simp only [BitVec.getElem_extractLsb', BitVec.getLsbD_append]; interval_cases i <;> simp
  have e2 : f.word.extractLsb' 28 4 = cond := by
    simp only [f, Form.word]; ext i hi
    simp only [BitVec.getElem_extractLsb', BitVec.getLsbD_append]; interval_cases i <;> simp
  have e3 : f.word.extractLsb' 16 4 = rn := by
    simp only [f, Form.word]; ext i hi
    simp only [BitVec.getElem_extractLsb', BitVec.getLsbD_append]; interval_cases i <;> simp
  have e4 : f.word.extractLsb' 0 8 = imm8 := by
    simp only [f, Form.word]; ext i hi
    simp only [BitVec.getElem_extractLsb', BitVec.getLsbD_append]; interval_cases i <;> simp
  have b0 : f.word.getLsbD 22 = false := by simp only [f, Form.word, BitVec.getLsbD_append]; simp
  have b1 : f.word.getLsbD 20 = load := by simp only [f, Form.word, BitVec.getLsbD_append]; simp
  have b2 : f.word.getLsbD 24 = p := by simp only [f, Form.word, BitVec.getLsbD_append]; simp
  have b3 : f.word.getLsbD 23 = u := by simp only [f, Form.word, BitVec.getLsbD_append]; simp
  have b4 : f.word.getLsbD 21 = w := by simp only [f, Form.word, BitVec.getLsbD_append]; simp
  have b5 : f.word.getLsbD 25 = false := by simp only [f, Form.word, BitVec.getLsbD_append]; simp
  have n1 : ¬ f.word.extractLsb' 24 4 = 0b1110 := fun h => by
    have := congrArg (fun v : BitVec 4 => v.getLsbD 1) h
    simp [-BitVec.getLsbD_eq_getElem, b5] at this
  have n2 : ¬ f.word.extractLsb' 21 7 = 0b1100010 := fun h => by
    have := congrArg (fun v : BitVec 7 => v.getLsbD 1) h
    simp [-BitVec.getLsbD_eq_getElem, b0] at this
  change Form.parseA32 f.word = some f
  simp only [Form.parseA32, bitField, n1, n2, e0, e1, e2, e3, e4, b0, b1, b2, b3, b4, false_and, if_false,
    Bool.not_false, and_self, if_true]; rfl

end Sys2Proof.Laws
end

