-- ==== Sys2Proof/Laws/Outcomes.lean ====
section
/-! SUPPORT. Everything `exec` can do with each instruction, one lemma per instruction, and `exec_outcome` for all. -/

namespace Sys2Proof.Machine

theorem outcome_mrsMdcrEl2 (s : State) (t : XReg) :
    ∃ u, exec (.mrsMdcrEl2 t) s = .next u ∧ OutcomeOf (.mrsMdcrEl2 t) s u := by
  have hx : t ∈ (Instr.mrsMdcrEl2 t).writesX := List.mem_singleton.mpr rfl
  exact ⟨_, rfl, mrs_outcome hx (mdcrChain_sound s) (fun _ => Access_setX s t _ hx)⟩

theorem outcome_msrMdcrEl2 (s : State) (t : XReg) :
    ∃ u, exec (.msrMdcrEl2 t) s = .next u ∧ OutcomeOf (.msrMdcrEl2 t) s u := 
  ⟨_, rfl, msr_outcome (mdcrChain_sound s) (fun _ => Access_mdcr s _ rfl) (fun off h => absurd h (mdcrChain_nv s off))⟩

theorem outcome_mrsMdccsrEl0 (s : State) (t : XReg) :
    ∃ u, exec (.mrsMdccsrEl0 t) s = .next u ∧ OutcomeOf (.mrsMdccsrEl0 t) s u := by
  have hx : t ∈ (Instr.mrsMdccsrEl0 t).writesX := List.mem_singleton.mpr rfl
  exact ⟨_, rfl, mrs_outcome hx (dccUserChain_sound s) (fun _ => Access_setX s t _ hx)⟩

theorem outcome_mrsMdccintEl1 (s : State) (t : XReg) :
    ∃ u, exec (.mrsMdccintEl1 t) s = .next u ∧ OutcomeOf (.mrsMdccintEl1 t) s u := by
  have hx : t ∈ (Instr.mrsMdccintEl1 t).writesX := List.mem_singleton.mpr rfl
  exact ⟨_, rfl, mrs_outcome hx (dccChain_sound s) (fun _ => Access_setX s t _ hx)⟩

theorem outcome_msrMdccintEl1 (s : State) (t : XReg) :
    ∃ u, exec (.msrMdccintEl1 t) s = .next u ∧ OutcomeOf (.msrMdccintEl1 t) s u := 
  ⟨_, rfl, msr_outcome (dccChain_sound s) (fun _ => Access_dbg s _ rfl) (fun off h => absurd h (dccChain_nv s off))⟩

theorem outcome_mrsOsdtrrxEl1 (s : State) (t : XReg) :
    ∃ u, exec (.mrsOsdtrrxEl1 t) s = .next u ∧ OutcomeOf (.mrsOsdtrrxEl1 t) s u := by
  have hx : t ∈ (Instr.mrsOsdtrrxEl1 t).writesX := List.mem_singleton.mpr rfl
  exact ⟨_, rfl, mrs_outcome hx (dccChain_sound s) (fun _ => Access_setX s t _ hx)⟩

theorem outcome_msrOsdtrrxEl1 (s : State) (t : XReg) :
    ∃ u, exec (.msrOsdtrrxEl1 t) s = .next u ∧ OutcomeOf (.msrOsdtrrxEl1 t) s u := 
  ⟨_, rfl, msr_outcome (dccChain_sound s) (fun _ => Access_dbg s _ rfl) (fun off h => absurd h (dccChain_nv s off))⟩

theorem outcome_mrsOsdtrtxEl1 (s : State) (t : XReg) :
    ∃ u, exec (.mrsOsdtrtxEl1 t) s = .next u ∧ OutcomeOf (.mrsOsdtrtxEl1 t) s u := by
  have hx : t ∈ (Instr.mrsOsdtrtxEl1 t).writesX := List.mem_singleton.mpr rfl
  exact ⟨_, rfl, mrs_outcome hx (dccChain_sound s) (fun _ => Access_setX s t _ hx)⟩

theorem outcome_msrOsdtrtxEl1 (s : State) (t : XReg) :
    ∃ u, exec (.msrOsdtrtxEl1 t) s = .next u ∧ OutcomeOf (.msrOsdtrtxEl1 t) s u := 
  ⟨_, rfl, msr_outcome (dccChain_sound s) (fun _ => Access_dbg s _ rfl) (fun off h => absurd h (dccChain_nv s off))⟩

theorem outcome_mrsDbgdtrEl0 (s : State) (t : XReg) :
    ∃ u, exec (.mrsDbgdtrEl0 t) s = .next u ∧ OutcomeOf (.mrsDbgdtrEl0 t) s u := by
  have hx : t ∈ (Instr.mrsDbgdtrEl0 t).writesX := List.mem_singleton.mpr rfl
  exact ⟨_, rfl, mrs_outcome hx (dtrChain_sound s) (fun _ => Access_dtr_setX s t _ hx rfl)⟩

theorem outcome_msrDbgdtrEl0 (s : State) (t : XReg) :
    ∃ u, exec (.msrDbgdtrEl0 t) s = .next u ∧ OutcomeOf (.msrDbgdtrEl0 t) s u := 
  ⟨_, rfl, msr_outcome (dtrChain_sound s) (fun _ => Access_dbg s _ rfl) (fun off h => absurd h (dtrChain_nv s off))⟩

theorem outcome_mrsDbgdtrrxEl0 (s : State) (t : XReg) :
    ∃ u, exec (.mrsDbgdtrrxEl0 t) s = .next u ∧ OutcomeOf (.mrsDbgdtrrxEl0 t) s u := by
  have hx : t ∈ (Instr.mrsDbgdtrrxEl0 t).writesX := List.mem_singleton.mpr rfl
  exact ⟨_, rfl, mrs_outcome hx (dtrChain_sound s) (fun _ => Access_dtr_setX s t _ hx rfl)⟩

theorem outcome_msrDbgdtrtxEl0 (s : State) (t : XReg) :
    ∃ u, exec (.msrDbgdtrtxEl0 t) s = .next u ∧ OutcomeOf (.msrDbgdtrtxEl0 t) s u := 
  ⟨_, rfl, msr_outcome (dtrChain_sound s) (fun _ => Access_dbg s _ rfl) (fun off h => absurd h (dtrChain_nv s off))⟩

theorem outcome_mrsMdscrEl1 (s : State) (t : XReg) :
    ∃ u, exec (.mrsMdscrEl1 t) s = .next u ∧ OutcomeOf (.mrsMdscrEl1 t) s u := by
  have hx : t ∈ (Instr.mrsMdscrEl1 t).writesX := List.mem_singleton.mpr rfl
  exact ⟨_, rfl, mrs_outcome hx (mdscrChain_sound s _) (fun _ => Access_setX s t _ hx)⟩

theorem outcome_msrMdscrEl1 (s : State) (t : XReg) :
    ∃ u, exec (.msrMdscrEl1 t) s = .next u ∧ OutcomeOf (.msrMdscrEl1 t) s u := 
  ⟨_, rfl, msr_outcome (mdscrChain_sound s _) (fun _ => Access_dbg s _ rfl) (fun off h => by obtain ⟨rfl, h2⟩ := mdscrChain_nv h; exact if_pos h2)⟩

theorem outcome_mrsOseccrEl1 (s : State) (t : XReg) :
    ∃ u, exec (.mrsOseccrEl1 t) s = .next u ∧ OutcomeOf (.mrsOseccrEl1 t) s u := by
  have hx : t ∈ (Instr.mrsOseccrEl1 t).writesX := List.mem_singleton.mpr rfl
  exact ⟨_, rfl, mrs_outcome hx (tdaChain_sound s _ _ (access_sound s _) (access_sound s _)) (fun _ => Access_setX s t _ hx)⟩

theorem outcome_msrOseccrEl1 (s : State) (t : XReg) :
    ∃ u, exec (.msrOseccrEl1 t) s = .next u ∧ OutcomeOf (.msrOseccrEl1 t) s u := 
  ⟨_, rfl, msr_outcome (tdaChain_sound s _ _ (access_sound s _) (access_sound s _)) (fun _ => Access_dbg s _ rfl) (fun off h => absurd h (tdaChain_nv s _ _ off (by simp) (by simp)))⟩

theorem outcome_mrsDbgbvrEl1 (s : State) (n : BitVec 4) (t : XReg) :
    ∃ u, exec (.mrsDbgbvrEl1 n t) s = .next u ∧ OutcomeOf (.mrsDbgbvrEl1 n t) s u := by
  have hx : t ∈ (Instr.mrsDbgbvrEl1 n t).writesX := List.mem_singleton.mpr rfl
  exact ⟨_, rfl, mrs_outcome hx (breakChain_sound s _ _ _ _) (fun _ => Access_setX s t _ hx)⟩

theorem outcome_msrDbgbvrEl1 (s : State) (n : BitVec 4) (t : XReg) :
    ∃ u, exec (.msrDbgbvrEl1 n t) s = .next u ∧ OutcomeOf (.msrDbgbvrEl1 n t) s u := 
  ⟨_, rfl, msr_outcome (breakChain_sound s _ _ _ _) (fun _ => Access_dbg s _ rfl) (fun off h => absurd h (breakChain_nv s _ _ _ off _))⟩

theorem outcome_mrsDbgbcrEl1 (s : State) (n : BitVec 4) (t : XReg) :
    ∃ u, exec (.mrsDbgbcrEl1 n t) s = .next u ∧ OutcomeOf (.mrsDbgbcrEl1 n t) s u := by
  have hx : t ∈ (Instr.mrsDbgbcrEl1 n t).writesX := List.mem_singleton.mpr rfl
  exact ⟨_, rfl, mrs_outcome hx (breakChain_sound s _ _ _ _) (fun _ => Access_setX s t _ hx)⟩

theorem outcome_msrDbgbcrEl1 (s : State) (n : BitVec 4) (t : XReg) :
    ∃ u, exec (.msrDbgbcrEl1 n t) s = .next u ∧ OutcomeOf (.msrDbgbcrEl1 n t) s u := 
  ⟨_, rfl, msr_outcome (breakChain_sound s _ _ _ _) (fun _ => Access_dbg s _ rfl) (fun off h => absurd h (breakChain_nv s _ _ _ off _))⟩

theorem outcome_mrsDbgwvrEl1 (s : State) (n : BitVec 4) (t : XReg) :
    ∃ u, exec (.mrsDbgwvrEl1 n t) s = .next u ∧ OutcomeOf (.mrsDbgwvrEl1 n t) s u := by
  have hx : t ∈ (Instr.mrsDbgwvrEl1 n t).writesX := List.mem_singleton.mpr rfl
  exact ⟨_, rfl, mrs_outcome hx (breakChain_sound s _ _ _ _) (fun _ => Access_setX s t _ hx)⟩

theorem outcome_msrDbgwvrEl1 (s : State) (n : BitVec 4) (t : XReg) :
    ∃ u, exec (.msrDbgwvrEl1 n t) s = .next u ∧ OutcomeOf (.msrDbgwvrEl1 n t) s u := 
  ⟨_, rfl, msr_outcome (breakChain_sound s _ _ _ _) (fun _ => Access_dbg s _ rfl) (fun off h => absurd h (breakChain_nv s _ _ _ off _))⟩

theorem outcome_mrsDbgwcrEl1 (s : State) (n : BitVec 4) (t : XReg) :
    ∃ u, exec (.mrsDbgwcrEl1 n t) s = .next u ∧ OutcomeOf (.mrsDbgwcrEl1 n t) s u := by
  have hx : t ∈ (Instr.mrsDbgwcrEl1 n t).writesX := List.mem_singleton.mpr rfl
  exact ⟨_, rfl, mrs_outcome hx (breakChain_sound s _ _ _ _) (fun _ => Access_setX s t _ hx)⟩

theorem outcome_msrDbgwcrEl1 (s : State) (n : BitVec 4) (t : XReg) :
    ∃ u, exec (.msrDbgwcrEl1 n t) s = .next u ∧ OutcomeOf (.msrDbgwcrEl1 n t) s u := 
  ⟨_, rfl, msr_outcome (breakChain_sound s _ _ _ _) (fun _ => Access_dbg s _ rfl) (fun off h => absurd h (breakChain_nv s _ _ _ off _))⟩

theorem outcome_mrsDbgclaimsetEl1 (s : State) (t : XReg) :
    ∃ u, exec (.mrsDbgclaimsetEl1 t) s = .next u ∧ OutcomeOf (.mrsDbgclaimsetEl1 t) s u := by
  have hx : t ∈ (Instr.mrsDbgclaimsetEl1 t).writesX := List.mem_singleton.mpr rfl
  exact ⟨_, rfl, mrs_outcome hx (tdaChain_sound s _ _ (access_sound s _) (access_sound s _)) (fun _ => Access_setX s t _ hx)⟩

theorem outcome_msrDbgclaimsetEl1 (s : State) (t : XReg) :
    ∃ u, exec (.msrDbgclaimsetEl1 t) s = .next u ∧ OutcomeOf (.msrDbgclaimsetEl1 t) s u := 
  ⟨_, rfl, msr_outcome (tdaChain_sound s _ _ (access_sound s _) (access_sound s _)) (fun _ => Access_dbg s _ rfl) (fun off h => absurd h (tdaChain_nv s _ _ off (by simp) (by simp)))⟩

theorem outcome_mrsDbgclaimclrEl1 (s : State) (t : XReg) :
    ∃ u, exec (.mrsDbgclaimclrEl1 t) s = .next u ∧ OutcomeOf (.mrsDbgclaimclrEl1 t) s u := by
  have hx : t ∈ (Instr.mrsDbgclaimclrEl1 t).writesX := List.mem_singleton.mpr rfl
  exact ⟨_, rfl, mrs_outcome hx (tdaChain_sound s _ _ (access_sound s _) (access_sound s _)) (fun _ => Access_setX s t _ hx)⟩

theorem outcome_msrDbgclaimclrEl1 (s : State) (t : XReg) :
    ∃ u, exec (.msrDbgclaimclrEl1 t) s = .next u ∧ OutcomeOf (.msrDbgclaimclrEl1 t) s u := 
  ⟨_, rfl, msr_outcome (tdaChain_sound s _ _ (access_sound s _) (access_sound s _)) (fun _ => Access_dbg s _ rfl) (fun off h => absurd h (tdaChain_nv s _ _ off (by simp) (by simp)))⟩

theorem outcome_mrsDbgauthstatusEl1 (s : State) (t : XReg) :
    ∃ u, exec (.mrsDbgauthstatusEl1 t) s = .next u ∧ OutcomeOf (.mrsDbgauthstatusEl1 t) s u := by
  have hx : t ∈ (Instr.mrsDbgauthstatusEl1 t).writesX := List.mem_singleton.mpr rfl
  exact ⟨_, rfl, mrs_outcome hx (tdaChain_sound s _ _ (access_sound s _) (access_sound s _)) (fun _ => Access_setX s t _ hx)⟩

theorem outcome_mrsMdrarEl1 (s : State) (t : XReg) :
    ∃ u, exec (.mrsMdrarEl1 t) s = .next u ∧ OutcomeOf (.mrsMdrarEl1 t) s u := by
  have hx : t ∈ (Instr.mrsMdrarEl1 t).writesX := List.mem_singleton.mpr rfl
  exact ⟨_, rfl, mrs_outcome hx (mdrarChain_sound s) (fun _ => Access_setX s t _ hx)⟩

theorem outcome_msrOslarEl1 (s : State) (t : XReg) :
    ∃ u, exec (.msrOslarEl1 t) s = .next u ∧ OutcomeOf (.msrOslarEl1 t) s u := 
  ⟨_, rfl, msr_outcome (tdosaChain_sound s _ _ _ _ _) (fun _ => Access_dbg s _ rfl) (fun off h => absurd h (tdosaChain_nv s _ _ off _ _ _))⟩

theorem outcome_mrsOslsrEl1 (s : State) (t : XReg) :
    ∃ u, exec (.mrsOslsrEl1 t) s = .next u ∧ OutcomeOf (.mrsOslsrEl1 t) s u := by
  have hx : t ∈ (Instr.mrsOslsrEl1 t).writesX := List.mem_singleton.mpr rfl
  exact ⟨_, rfl, mrs_outcome hx (tdosaChain_sound s _ _ _ _ _) (fun _ => Access_setX s t _ hx)⟩

theorem outcome_mrsOsdlrEl1 (s : State) (t : XReg) :
    ∃ u, exec (.mrsOsdlrEl1 t) s = .next u ∧ OutcomeOf (.mrsOsdlrEl1 t) s u := by
  have hx : t ∈ (Instr.mrsOsdlrEl1 t).writesX := List.mem_singleton.mpr rfl
  exact ⟨_, rfl, mrs_outcome hx (tdosaChain_sound s _ _ _ _ _) (fun _ => Access_setX s t _ hx)⟩

theorem outcome_msrOsdlrEl1 (s : State) (t : XReg) :
    ∃ u, exec (.msrOsdlrEl1 t) s = .next u ∧ OutcomeOf (.msrOsdlrEl1 t) s u := 
  ⟨_, rfl, msr_outcome (tdosaChain_sound s _ _ _ _ _) (fun _ => Access_dbg s _ rfl) (fun off h => absurd h (tdosaChain_nv s _ _ off _ _ _))⟩

theorem outcome_mrsDbgprcrEl1 (s : State) (t : XReg) :
    ∃ u, exec (.mrsDbgprcrEl1 t) s = .next u ∧ OutcomeOf (.mrsDbgprcrEl1 t) s u := by
  have hx : t ∈ (Instr.mrsDbgprcrEl1 t).writesX := List.mem_singleton.mpr rfl
  exact ⟨_, rfl, mrs_outcome hx (tdosaChain_sound s _ _ _ _ _) (fun _ => Access_setX s t _ hx)⟩

theorem outcome_msrDbgprcrEl1 (s : State) (t : XReg) :
    ∃ u, exec (.msrDbgprcrEl1 t) s = .next u ∧ OutcomeOf (.msrDbgprcrEl1 t) s u := 
  ⟨_, rfl, msr_outcome (tdosaChain_sound s _ _ _ _ _) (fun _ => Access_dbg s _ rfl) (fun off h => absurd h (tdosaChain_nv s _ _ off _ _ _))⟩

theorem outcome_mrsPmcrEl0 (s : State) (t : XReg) :
    ∃ u, exec (.mrsPmcrEl0 t) s = .next u ∧ OutcomeOf (.mrsPmcrEl0 t) s u := by
  have hx : t ∈ (Instr.mrsPmcrEl0 t).writesX := List.mem_singleton.mpr rfl
  exact ⟨_, rfl, mrs_outcome hx (pmuChain_sound s _ _ _ _ _ (access_sound s _) (fun d hd => by cases hd)) (fun _ => Access_setX s t _ hx)⟩

theorem outcome_msrPmcrEl0 (s : State) (t : XReg) :
    ∃ u, exec (.msrPmcrEl0 t) s = .next u ∧ OutcomeOf (.msrPmcrEl0 t) s u := 
  ⟨_, rfl, msr_outcome (pmuChain_sound s _ _ _ _ _ (access_sound s _) (fun d hd => by cases hd)) (fun _ => Access_pmcr s _ rfl) (fun off h => absurd h (pmuChain_nv s _ _ _ off _ _ (by simp) (by simp)))⟩

theorem outcome_mrsPmcntensetEl0 (s : State) (t : XReg) :
    ∃ u, exec (.mrsPmcntensetEl0 t) s = .next u ∧ OutcomeOf (.mrsPmcntensetEl0 t) s u := by
  have hx : t ∈ (Instr.mrsPmcntensetEl0 t).writesX := List.mem_singleton.mpr rfl
  exact ⟨_, rfl, mrs_outcome hx (pmuChain_sound s _ _ _ _ _ (access_sound s _) (fun d hd => by cases hd)) (fun _ => Access_setX s t _ hx)⟩

theorem outcome_msrPmcntensetEl0 (s : State) (t : XReg) :
    ∃ u, exec (.msrPmcntensetEl0 t) s = .next u ∧ OutcomeOf (.msrPmcntensetEl0 t) s u := 
  ⟨_, rfl, msr_outcome (pmuChain_sound s _ _ _ _ _ (access_sound s _) (fun d hd => by cases hd)) (fun _ => Access_pmu _ rfl (.inl rfl) (fun _ h => h)) (fun off h => absurd h (pmuChain_nv s _ _ _ off _ _ (by simp) (by simp)))⟩

theorem outcome_mrsPmcntenclrEl0 (s : State) (t : XReg) :
    ∃ u, exec (.mrsPmcntenclrEl0 t) s = .next u ∧ OutcomeOf (.mrsPmcntenclrEl0 t) s u := by
  have hx : t ∈ (Instr.mrsPmcntenclrEl0 t).writesX := List.mem_singleton.mpr rfl
  exact ⟨_, rfl, mrs_outcome hx (pmuChain_sound s _ _ _ _ _ (access_sound s _) (fun d hd => by cases hd)) (fun _ => Access_setX s t _ hx)⟩

theorem outcome_msrPmcntenclrEl0 (s : State) (t : XReg) :
    ∃ u, exec (.msrPmcntenclrEl0 t) s = .next u ∧ OutcomeOf (.msrPmcntenclrEl0 t) s u := 
  ⟨_, rfl, msr_outcome (pmuChain_sound s _ _ _ _ _ (access_sound s _) (fun d hd => by cases hd)) (fun _ => Access_pmu _ rfl (.inl rfl) (fun _ h => h)) (fun off h => absurd h (pmuChain_nv s _ _ _ off _ _ (by simp) (by simp)))⟩

theorem outcome_mrsPmovsclrEl0 (s : State) (t : XReg) :
    ∃ u, exec (.mrsPmovsclrEl0 t) s = .next u ∧ OutcomeOf (.mrsPmovsclrEl0 t) s u := by
  have hx : t ∈ (Instr.mrsPmovsclrEl0 t).writesX := List.mem_singleton.mpr rfl
  exact ⟨_, rfl, mrs_outcome hx (pmuChain_sound s _ _ _ _ _ (access_sound s _) (fun d hd => by cases hd)) (fun _ => Access_setX s t _ hx)⟩

theorem outcome_msrPmovsclrEl0 (s : State) (t : XReg) :
    ∃ u, exec (.msrPmovsclrEl0 t) s = .next u ∧ OutcomeOf (.msrPmovsclrEl0 t) s u := 
  ⟨_, rfl, msr_outcome (pmuChain_sound s _ _ _ _ _ (access_sound s _) (fun d hd => by cases hd)) (fun _ => Access_pmu _ rfl (.inl rfl) (fun _ h => h)) (fun off h => absurd h (pmuChain_nv s _ _ _ off _ _ (by simp) (by simp)))⟩

theorem outcome_msrPmswincEl0 (s : State) (t : XReg) :
    ∃ u, exec (.msrPmswincEl0 t) s = .next u ∧ OutcomeOf (.msrPmswincEl0 t) s u := 
  ⟨_, rfl, msr_outcome (pmuChain_sound s _ _ _ _ _ (access_sound s _) (fun d hd => by cases hd)) (fun _ => Access_swinc s _ rfl) (fun off h => absurd h (pmuChain_nv s _ _ _ off _ _ (by simp) (by simp)))⟩

theorem outcome_mrsPmselrEl0 (s : State) (t : XReg) :
    ∃ u, exec (.mrsPmselrEl0 t) s = .next u ∧ OutcomeOf (.mrsPmselrEl0 t) s u := by
  have hx : t ∈ (Instr.mrsPmselrEl0 t).writesX := List.mem_singleton.mpr rfl
  exact ⟨_, rfl, mrs_outcome hx (pmuChain_sound s _ _ _ _ _ (access_sound s _) (fun d hd => by cases hd)) (fun _ => Access_setX s t _ hx)⟩

theorem outcome_msrPmselrEl0 (s : State) (t : XReg) :
    ∃ u, exec (.msrPmselrEl0 t) s = .next u ∧ OutcomeOf (.msrPmselrEl0 t) s u := 
  ⟨_, rfl, msr_outcome (pmuChain_sound s _ _ _ _ _ (access_sound s _) (fun d hd => by cases hd)) (fun _ => Access_pmu _ rfl (.inl rfl) (fun _ h => h)) (fun off h => absurd h (pmuChain_nv s _ _ _ off _ _ (by simp) (by simp)))⟩

theorem outcome_mrsPmceid0El0 (s : State) (t : XReg) :
    ∃ u, exec (.mrsPmceid0El0 t) s = .next u ∧ OutcomeOf (.mrsPmceid0El0 t) s u := by
  have hx : t ∈ (Instr.mrsPmceid0El0 t).writesX := List.mem_singleton.mpr rfl
  exact ⟨_, rfl, mrs_outcome hx (pmuChain_sound s _ _ _ _ _ (access_sound s _) (fun d hd => by cases hd)) (fun _ => Access_setX s t _ hx)⟩

theorem outcome_mrsPmceid1El0 (s : State) (t : XReg) :
    ∃ u, exec (.mrsPmceid1El0 t) s = .next u ∧ OutcomeOf (.mrsPmceid1El0 t) s u := by
  have hx : t ∈ (Instr.mrsPmceid1El0 t).writesX := List.mem_singleton.mpr rfl
  exact ⟨_, rfl, mrs_outcome hx (pmuChain_sound s _ _ _ _ _ (access_sound s _) (fun d hd => by cases hd)) (fun _ => Access_setX s t _ hx)⟩

theorem outcome_mrsPmccntrEl0 (s : State) (t : XReg) :
    ∃ u, exec (.mrsPmccntrEl0 t) s = .next u ∧ OutcomeOf (.mrsPmccntrEl0 t) s u := by
  have hx : t ∈ (Instr.mrsPmccntrEl0 t).writesX := List.mem_singleton.mpr rfl
  exact ⟨_, rfl, mrs_outcome hx (pmuChain_sound s _ _ _ _ _ (access_sound s _) (fun d hd => by cases hd)) (fun _ => Access_setX s t _ hx)⟩

theorem outcome_msrPmccntrEl0 (s : State) (t : XReg) :
    ∃ u, exec (.msrPmccntrEl0 t) s = .next u ∧ OutcomeOf (.msrPmccntrEl0 t) s u := 
  ⟨_, rfl, msr_outcome (pmuChain_sound s _ _ _ _ _ (access_sound s _) (fun d hd => by cases hd)) (fun _ => Access_pmu _ rfl (.inl rfl) (fun _ h => h)) (fun off h => absurd h (pmuChain_nv s _ _ _ off _ _ (by simp) (by simp)))⟩

theorem outcome_mrsPmxevtyperEl0 (s : State) (t : XReg) :
    ∃ u, exec (.mrsPmxevtyperEl0 t) s = .next u ∧ OutcomeOf (.mrsPmxevtyperEl0 t) s u := by
  have hx : t ∈ (Instr.mrsPmxevtyperEl0 t).writesX := List.mem_singleton.mpr rfl
  exact ⟨_, rfl, mrs_outcome hx (counterChain_sound s _ _ _ _ _) (fun _ => Access_setX s t _ hx)⟩

theorem outcome_msrPmxevtyperEl0 (s : State) (t : XReg) :
    ∃ u, exec (.msrPmxevtyperEl0 t) s = .next u ∧ OutcomeOf (.msrPmxevtyperEl0 t) s u := 
  ⟨_, rfl, msr_outcome (counterChain_sound s _ _ _ _ _) (fun _ => Access_type s _ _ rfl) (fun off h => absurd h (counterChain_nv s _ _ _ off _ _))⟩

theorem outcome_mrsPmxevcntrEl0 (s : State) (t : XReg) :
    ∃ u, exec (.mrsPmxevcntrEl0 t) s = .next u ∧ OutcomeOf (.mrsPmxevcntrEl0 t) s u := by
  have hx : t ∈ (Instr.mrsPmxevcntrEl0 t).writesX := List.mem_singleton.mpr rfl
  exact ⟨_, rfl, mrs_outcome hx (counterChain_sound s _ _ _ _ _) (fun _ => Access_setX s t _ hx)⟩

theorem outcome_msrPmxevcntrEl0 (s : State) (t : XReg) :
    ∃ u, exec (.msrPmxevcntrEl0 t) s = .next u ∧ OutcomeOf (.msrPmxevcntrEl0 t) s u := 
  ⟨_, rfl, msr_outcome (counterChain_sound s _ _ _ _ _) (fun _ => Access_counter s _ _ rfl) (fun off h => absurd h (counterChain_nv s _ _ _ off _ _))⟩

theorem outcome_mrsPmuserenrEl0 (s : State) (t : XReg) :
    ∃ u, exec (.mrsPmuserenrEl0 t) s = .next u ∧ OutcomeOf (.mrsPmuserenrEl0 t) s u := by
  have hx : t ∈ (Instr.mrsPmuserenrEl0 t).writesX := List.mem_singleton.mpr rfl
  exact ⟨_, rfl, mrs_outcome hx (pmuChain_sound s _ _ _ _ _ (access_sound s _) (fun d hd => by cases hd)) (fun _ => Access_setX s t _ hx)⟩

theorem outcome_msrPmuserenrEl0 (s : State) (t : XReg) :
    ∃ u, exec (.msrPmuserenrEl0 t) s = .next u ∧ OutcomeOf (.msrPmuserenrEl0 t) s u := 
  ⟨_, rfl, msr_outcome (pmuChain_sound s _ _ _ _ _ (access_sound s _) (fun d hd => by cases hd)) (fun _ => Access_pmu _ rfl (.inl rfl) (fun _ h => h)) (fun off h => absurd h (pmuChain_nv s _ _ _ off _ _ (by simp) (by simp)))⟩

theorem outcome_mrsPmovssetEl0 (s : State) (t : XReg) :
    ∃ u, exec (.mrsPmovssetEl0 t) s = .next u ∧ OutcomeOf (.mrsPmovssetEl0 t) s u := by
  have hx : t ∈ (Instr.mrsPmovssetEl0 t).writesX := List.mem_singleton.mpr rfl
  exact ⟨_, rfl, mrs_outcome hx (pmuChain_sound s _ _ _ _ _ (access_sound s _) (fun d hd => by cases hd)) (fun _ => Access_setX s t _ hx)⟩

theorem outcome_msrPmovssetEl0 (s : State) (t : XReg) :
    ∃ u, exec (.msrPmovssetEl0 t) s = .next u ∧ OutcomeOf (.msrPmovssetEl0 t) s u := 
  ⟨_, rfl, msr_outcome (pmuChain_sound s _ _ _ _ _ (access_sound s _) (fun d hd => by cases hd)) (fun _ => Access_pmu _ rfl (.inl rfl) (fun _ h => h)) (fun off h => absurd h (pmuChain_nv s _ _ _ off _ _ (by simp) (by simp)))⟩

theorem outcome_mrsPmintensetEl1 (s : State) (t : XReg) :
    ∃ u, exec (.mrsPmintensetEl1 t) s = .next u ∧ OutcomeOf (.mrsPmintensetEl1 t) s u := by
  have hx : t ∈ (Instr.mrsPmintensetEl1 t).writesX := List.mem_singleton.mpr rfl
  exact ⟨_, rfl, mrs_outcome hx (pmuChain_sound s _ _ _ _ _ (access_sound s _) (fun d hd => by cases hd)) (fun _ => Access_setX s t _ hx)⟩

theorem outcome_msrPmintensetEl1 (s : State) (t : XReg) :
    ∃ u, exec (.msrPmintensetEl1 t) s = .next u ∧ OutcomeOf (.msrPmintensetEl1 t) s u := 
  ⟨_, rfl, msr_outcome (pmuChain_sound s _ _ _ _ _ (access_sound s _) (fun d hd => by cases hd)) (fun _ => Access_pmu _ rfl (.inl rfl) (fun _ h => h)) (fun off h => absurd h (pmuChain_nv s _ _ _ off _ _ (by simp) (by simp)))⟩

theorem outcome_mrsPmintenclrEl1 (s : State) (t : XReg) :
    ∃ u, exec (.mrsPmintenclrEl1 t) s = .next u ∧ OutcomeOf (.mrsPmintenclrEl1 t) s u := by
  have hx : t ∈ (Instr.mrsPmintenclrEl1 t).writesX := List.mem_singleton.mpr rfl
  exact ⟨_, rfl, mrs_outcome hx (pmuChain_sound s _ _ _ _ _ (access_sound s _) (fun d hd => by cases hd)) (fun _ => Access_setX s t _ hx)⟩

theorem outcome_msrPmintenclrEl1 (s : State) (t : XReg) :
    ∃ u, exec (.msrPmintenclrEl1 t) s = .next u ∧ OutcomeOf (.msrPmintenclrEl1 t) s u := 
  ⟨_, rfl, msr_outcome (pmuChain_sound s _ _ _ _ _ (access_sound s _) (fun d hd => by cases hd)) (fun _ => Access_pmu _ rfl (.inl rfl) (fun _ h => h)) (fun off h => absurd h (pmuChain_nv s _ _ _ off _ _ (by simp) (by simp)))⟩

theorem outcome_mrsPmmirEl1 (s : State) (t : XReg) :
    ∃ u, exec (.mrsPmmirEl1 t) s = .next u ∧ OutcomeOf (.mrsPmmirEl1 t) s u := by
  have hx : t ∈ (Instr.mrsPmmirEl1 t).writesX := List.mem_singleton.mpr rfl
  exact ⟨_, rfl, mrs_outcome hx (pmuChain_sound s _ _ _ _ _ (access_sound s _) (fun d hd => by cases hd)) (fun _ => Access_setX s t _ hx)⟩

theorem outcome_mrsPmccfiltrEl0 (s : State) (t : XReg) :
    ∃ u, exec (.mrsPmccfiltrEl0 t) s = .next u ∧ OutcomeOf (.mrsPmccfiltrEl0 t) s u := by
  have hx : t ∈ (Instr.mrsPmccfiltrEl0 t).writesX := List.mem_singleton.mpr rfl
  exact ⟨_, rfl, mrs_outcome hx (pmuChain_sound s _ _ _ _ _ (access_sound s _) (fun d hd => by cases hd)) (fun _ => Access_setX s t _ hx)⟩

theorem outcome_msrPmccfiltrEl0 (s : State) (t : XReg) :
    ∃ u, exec (.msrPmccfiltrEl0 t) s = .next u ∧ OutcomeOf (.msrPmccfiltrEl0 t) s u := 
  ⟨_, rfl, msr_outcome (pmuChain_sound s _ _ _ _ _ (access_sound s _) (fun d hd => by cases hd)) (fun _ => Access_pmu _ rfl (.inl rfl) (fun _ h => h)) (fun off h => absurd h (pmuChain_nv s _ _ _ off _ _ (by simp) (by simp)))⟩

theorem outcome_mrsPmevcntrEl0 (s : State) (n : BitVec 5) (t : XReg) :
    ∃ u, exec (.mrsPmevcntrEl0 n t) s = .next u ∧ OutcomeOf (.mrsPmevcntrEl0 n t) s u := by
  have hx : t ∈ (Instr.mrsPmevcntrEl0 n t).writesX := List.mem_singleton.mpr rfl
  exact ⟨_, rfl, mrs_outcome hx (counterChain_sound s _ _ _ _ _) (fun _ => Access_setX s t _ hx)⟩

theorem outcome_msrPmevcntrEl0 (s : State) (n : BitVec 5) (t : XReg) :
    ∃ u, exec (.msrPmevcntrEl0 n t) s = .next u ∧ OutcomeOf (.msrPmevcntrEl0 n t) s u := 
  ⟨_, rfl, msr_outcome (counterChain_sound s _ _ _ _ _) (fun _ => Access_counter s _ _ rfl) (fun off h => absurd h (counterChain_nv s _ _ _ off _ _))⟩

theorem outcome_mrsPmevtyperEl0 (s : State) (n : BitVec 5) (t : XReg) :
    ∃ u, exec (.mrsPmevtyperEl0 n t) s = .next u ∧ OutcomeOf (.mrsPmevtyperEl0 n t) s u := by
  have hx : t ∈ (Instr.mrsPmevtyperEl0 n t).writesX := List.mem_singleton.mpr rfl
  exact ⟨_, rfl, mrs_outcome hx (counterChain_sound s _ _ _ _ _) (fun _ => Access_setX s t _ hx)⟩

theorem outcome_msrPmevtyperEl0 (s : State) (n : BitVec 5) (t : XReg) :
    ∃ u, exec (.msrPmevtyperEl0 n t) s = .next u ∧ OutcomeOf (.msrPmevtyperEl0 n t) s u := 
  ⟨_, rfl, msr_outcome (counterChain_sound s _ _ _ _ _) (fun _ => Access_pmu _ rfl (.inl rfl) (fun _ h => h)) (fun off h => absurd h (counterChain_nv s _ _ _ off _ _))⟩

theorem outcome_mrsPmscrEl1 (s : State) (t : XReg) :
    ∃ u, exec (.mrsPmscrEl1 t) s = .next u ∧ OutcomeOf (.mrsPmscrEl1 t) s u := by
  have hx : t ∈ (Instr.mrsPmscrEl1 t).writesX := List.mem_singleton.mpr rfl
  exact ⟨_, rfl, mrs_outcome hx (speChain_sound s _ _ _ (nvThen_sound s _ _)) (fun _ => Access_setX s t _ hx)⟩

theorem outcome_msrPmscrEl1 (s : State) (t : XReg) :
    ∃ u, exec (.msrPmscrEl1 t) s = .next u ∧ OutcomeOf (.msrPmscrEl1 t) s u := 
  ⟨_, rfl, msr_outcome (speChain_sound s _ _ _ (nvThen_sound s _ _)) (fun _ => Access_pmscr s _ rfl) (fun _ h => storeAll h rfl)⟩

theorem outcome_mrsPmsicrEl1 (s : State) (t : XReg) :
    ∃ u, exec (.mrsPmsicrEl1 t) s = .next u ∧ OutcomeOf (.mrsPmsicrEl1 t) s u := by
  have hx : t ∈ (Instr.mrsPmsicrEl1 t).writesX := List.mem_singleton.mpr rfl
  exact ⟨_, rfl, mrs_outcome hx (speChain_sound s _ _ _ (nvThen_sound s _ _)) (fun _ => Access_setX s t _ hx)⟩

theorem outcome_msrPmsicrEl1 (s : State) (t : XReg) :
    ∃ u, exec (.msrPmsicrEl1 t) s = .next u ∧ OutcomeOf (.msrPmsicrEl1 t) s u := 
  ⟨_, rfl, msr_outcome (speChain_sound s _ _ _ (nvThen_sound s _ _)) (fun _ => Access_spe _ rfl) (fun _ h => storeAny h rfl)⟩

theorem outcome_mrsPmsirrEl1 (s : State) (t : XReg) :
    ∃ u, exec (.mrsPmsirrEl1 t) s = .next u ∧ OutcomeOf (.mrsPmsirrEl1 t) s u := by
  have hx : t ∈ (Instr.mrsPmsirrEl1 t).writesX := List.mem_singleton.mpr rfl
  exact ⟨_, rfl, mrs_outcome hx (speChain_sound s _ _ _ (nvThen_sound s _ _)) (fun _ => Access_setX s t _ hx)⟩

theorem outcome_msrPmsirrEl1 (s : State) (t : XReg) :
    ∃ u, exec (.msrPmsirrEl1 t) s = .next u ∧ OutcomeOf (.msrPmsirrEl1 t) s u := 
  ⟨_, rfl, msr_outcome (speChain_sound s _ _ _ (nvThen_sound s _ _)) (fun _ => Access_spe _ rfl) (fun _ h => storeAny h rfl)⟩

theorem outcome_mrsPmsfcrEl1 (s : State) (t : XReg) :
    ∃ u, exec (.mrsPmsfcrEl1 t) s = .next u ∧ OutcomeOf (.mrsPmsfcrEl1 t) s u := by
  have hx : t ∈ (Instr.mrsPmsfcrEl1 t).writesX := List.mem_singleton.mpr rfl
  exact ⟨_, rfl, mrs_outcome hx (speChain_sound s _ _ _ (access_sound s _)) (fun _ => Access_setX s t _ hx)⟩

theorem outcome_msrPmsfcrEl1 (s : State) (t : XReg) :
    ∃ u, exec (.msrPmsfcrEl1 t) s = .next u ∧ OutcomeOf (.msrPmsfcrEl1 t) s u := 
  ⟨_, rfl, msr_outcome (speChain_sound s _ _ _ (access_sound s _)) (fun _ => Access_spe _ rfl) (fun off h => absurd h (speAccess_nv s _ _ _ off))⟩

theorem outcome_mrsPmsevfrEl1 (s : State) (t : XReg) :
    ∃ u, exec (.mrsPmsevfrEl1 t) s = .next u ∧ OutcomeOf (.mrsPmsevfrEl1 t) s u := by
  have hx : t ∈ (Instr.mrsPmsevfrEl1 t).writesX := List.mem_singleton.mpr rfl
  exact ⟨_, rfl, mrs_outcome hx (speChain_sound s _ _ _ (nvThen_sound s _ _)) (fun _ => Access_setX s t _ hx)⟩

theorem outcome_msrPmsevfrEl1 (s : State) (t : XReg) :
    ∃ u, exec (.msrPmsevfrEl1 t) s = .next u ∧ OutcomeOf (.msrPmsevfrEl1 t) s u := 
  ⟨_, rfl, msr_outcome (speChain_sound s _ _ _ (nvThen_sound s _ _)) (fun _ => Access_spe _ rfl) (fun _ h => storeAny h rfl)⟩

theorem outcome_mrsPmslatfrEl1 (s : State) (t : XReg) :
    ∃ u, exec (.mrsPmslatfrEl1 t) s = .next u ∧ OutcomeOf (.mrsPmslatfrEl1 t) s u := by
  have hx : t ∈ (Instr.mrsPmslatfrEl1 t).writesX := List.mem_singleton.mpr rfl
  exact ⟨_, rfl, mrs_outcome hx (speChain_sound s _ _ _ (nvThen_sound s _ _)) (fun _ => Access_setX s t _ hx)⟩

theorem outcome_msrPmslatfrEl1 (s : State) (t : XReg) :
    ∃ u, exec (.msrPmslatfrEl1 t) s = .next u ∧ OutcomeOf (.msrPmslatfrEl1 t) s u := 
  ⟨_, rfl, msr_outcome (speChain_sound s _ _ _ (nvThen_sound s _ _)) (fun _ => Access_spe _ rfl) (fun _ h => storeAny h rfl)⟩

theorem outcome_mrsPmsidrEl1 (s : State) (t : XReg) :
    ∃ u, exec (.mrsPmsidrEl1 t) s = .next u ∧ OutcomeOf (.mrsPmsidrEl1 t) s u := by
  have hx : t ∈ (Instr.mrsPmsidrEl1 t).writesX := List.mem_singleton.mpr rfl
  exact ⟨_, rfl, mrs_outcome hx (speChain_sound s _ _ _ (access_sound s _)) (fun _ => Access_setX s t _ hx)⟩

theorem outcome_mrsPmblimitrEl1 (s : State) (t : XReg) :
    ∃ u, exec (.mrsPmblimitrEl1 t) s = .next u ∧ OutcomeOf (.mrsPmblimitrEl1 t) s u := by
  have hx : t ∈ (Instr.mrsPmblimitrEl1 t).writesX := List.mem_singleton.mpr rfl
  exact ⟨_, rfl, mrs_outcome hx (speChain_sound s _ _ _ (nvThen_sound s _ _)) (fun _ => Access_setX s t _ hx)⟩

theorem outcome_msrPmblimitrEl1 (s : State) (t : XReg) :
    ∃ u, exec (.msrPmblimitrEl1 t) s = .next u ∧ OutcomeOf (.msrPmblimitrEl1 t) s u := 
  ⟨_, rfl, msr_outcome (speChain_sound s _ _ _ (nvThen_sound s _ _)) (fun _ => Access_spe _ rfl) (fun _ h => storeAny h rfl)⟩

theorem outcome_mrsPmbptrEl1 (s : State) (t : XReg) :
    ∃ u, exec (.mrsPmbptrEl1 t) s = .next u ∧ OutcomeOf (.mrsPmbptrEl1 t) s u := by
  have hx : t ∈ (Instr.mrsPmbptrEl1 t).writesX := List.mem_singleton.mpr rfl
  exact ⟨_, rfl, mrs_outcome hx (speChain_sound s _ _ _ (nvThen_sound s _ _)) (fun _ => Access_setX s t _ hx)⟩

theorem outcome_msrPmbptrEl1 (s : State) (t : XReg) :
    ∃ u, exec (.msrPmbptrEl1 t) s = .next u ∧ OutcomeOf (.msrPmbptrEl1 t) s u := 
  ⟨_, rfl, msr_outcome (speChain_sound s _ _ _ (nvThen_sound s _ _)) (fun _ => Access_spe _ rfl) (fun _ h => storeAny h rfl)⟩

theorem outcome_mrsPmbsrEl1 (s : State) (t : XReg) :
    ∃ u, exec (.mrsPmbsrEl1 t) s = .next u ∧ OutcomeOf (.mrsPmbsrEl1 t) s u := by
  have hx : t ∈ (Instr.mrsPmbsrEl1 t).writesX := List.mem_singleton.mpr rfl
  exact ⟨_, rfl, mrs_outcome hx (speChain_sound s _ _ _ (nvThen_sound s _ _)) (fun _ => Access_setX s t _ hx)⟩

theorem outcome_msrPmbsrEl1 (s : State) (t : XReg) :
    ∃ u, exec (.msrPmbsrEl1 t) s = .next u ∧ OutcomeOf (.msrPmbsrEl1 t) s u := 
  ⟨_, rfl, msr_outcome (speChain_sound s _ _ _ (nvThen_sound s _ _)) (fun _ => Access_spe _ rfl) (fun _ h => storeAny h rfl)⟩

theorem outcome_mrsPmbidrEl1 (s : State) (t : XReg) :
    ∃ u, exec (.mrsPmbidrEl1 t) s = .next u ∧ OutcomeOf (.mrsPmbidrEl1 t) s u := by
  have hx : t ∈ (Instr.mrsPmbidrEl1 t).writesX := List.mem_singleton.mpr rfl
  exact ⟨_, rfl, mrs_outcome hx (pmbidrChain_sound s) (fun _ => Access_setX s t _ hx)⟩

theorem outcome_mrsTrfcrEl1 (s : State) (t : XReg) :
    ∃ u, exec (.mrsTrfcrEl1 t) s = .next u ∧ OutcomeOf (.mrsTrfcrEl1 t) s u := by
  have hx : t ∈ (Instr.mrsTrfcrEl1 t).writesX := List.mem_singleton.mpr rfl
  exact ⟨_, rfl, mrs_outcome hx (trfcrChain_sound s _) (fun _ => Access_setX s t _ hx)⟩

theorem outcome_msrTrfcrEl1 (s : State) (t : XReg) :
    ∃ u, exec (.msrTrfcrEl1 t) s = .next u ∧ OutcomeOf (.msrTrfcrEl1 t) s u := 
  ⟨_, rfl, msr_outcome (trfcrChain_sound s _) (fun _ => Access_trfcr s _ rfl) (fun off h => by obtain ⟨rfl, h2⟩ := trfcrChain_nv h; exact if_pos h2)⟩

theorem outcome_mrcHdcr (s : State) (c : Cond) (t : RReg) :
    ∃ u, exec (.mrcHdcr c t) s = .next u ∧ OutcomeOf (.mrcHdcr c t) s u := by
  have hx : t.setWidth 5 ∈ (Instr.mrcHdcr c t).writesX := List.mem_singleton.mpr rfl
  exact ⟨_, rfl, outcome32 (hdcrChain_sound s) (fun _ _ _ => Access_setR s t _ hx) (Access_setR s t 0 hx)⟩

theorem outcome_mcrHdcr (s : State) (c : Cond) (t : RReg) :
    ∃ u, exec (.mcrHdcr c t) s = .next u ∧ OutcomeOf (.mcrHdcr c t) s u := 
  ⟨_, rfl, outcome32 (hdcrChain_sound s) (fun _ _ _ => Access_hdcr s _ rfl) (Access_refl _ s)⟩

theorem outcome_mrcDbgdidr (s : State) (c : Cond) (t : RReg) :
    ∃ u, exec (.mrcDbgdidr c t) s = .next u ∧ OutcomeOf (.mrcDbgdidr c t) s u := by
  have hx : t.setWidth 5 ∈ (Instr.mrcDbgdidr c t).writesX := List.mem_singleton.mpr rfl
  exact ⟨_, rfl, outcome32 (dcc32UserChain_sound s _) (fun _ _ _ => Access_setR s t _ hx) (Access_setR s t 0 hx)⟩

theorem outcome_mrcDbgdscrint (s : State) (c : Cond) (t : RReg) :
    ∃ u, exec (.mrcDbgdscrint c t) s = .next u ∧ OutcomeOf (.mrcDbgdscrint c t) s u := by
  have hx : t.setWidth 5 ∈ (Instr.mrcDbgdscrint c t).writesX := List.mem_singleton.mpr rfl
  exact ⟨_, rfl, outcome32 (dcc32UserChain_sound s _) (fun _ _ _ => Access_setR s t _ hx) (Access_setR s t 0 hx)⟩

theorem outcome_mrcDbgdtrrxint (s : State) (c : Cond) (t : RReg) :
    ∃ u, exec (.mrcDbgdtrrxint c t) s = .next u ∧ OutcomeOf (.mrcDbgdtrrxint c t) s u := by
  have hx : t.setWidth 5 ∈ (Instr.mrcDbgdtrrxint c t).writesX := List.mem_singleton.mpr rfl
  exact ⟨_, rfl, outcome32 (dtr32Chain_sound s) (fun _ _ _ => Access_dtr_setR s t _ hx rfl) (Access_setR s t 0 hx)⟩

theorem outcome_mcrDbgdtrtxint (s : State) (c : Cond) (t : RReg) :
    ∃ u, exec (.mcrDbgdtrtxint c t) s = .next u ∧ OutcomeOf (.mcrDbgdtrtxint c t) s u := 
  ⟨_, rfl, outcome32 (dtr32Chain_sound s) (fun _ _ _ => Access_dbg s _ rfl) (Access_refl _ s)⟩

theorem outcome_mrcDbgdccint (s : State) (c : Cond) (t : RReg) :
    ∃ u, exec (.mrcDbgdccint c t) s = .next u ∧ OutcomeOf (.mrcDbgdccint c t) s u := by
  have hx : t.setWidth 5 ∈ (Instr.mrcDbgdccint c t).writesX := List.mem_singleton.mpr rfl
  exact ⟨_, rfl, outcome32 (dcc32Chain_sound s) (fun _ _ _ => Access_setR s t _ hx) (Access_setR s t 0 hx)⟩

theorem outcome_mcrDbgdccint (s : State) (c : Cond) (t : RReg) :
    ∃ u, exec (.mcrDbgdccint c t) s = .next u ∧ OutcomeOf (.mcrDbgdccint c t) s u := 
  ⟨_, rfl, outcome32 (dcc32Chain_sound s) (fun _ _ _ => Access_dbg s _ rfl) (Access_refl _ s)⟩

theorem outcome_mrcDbgdtrrxext (s : State) (c : Cond) (t : RReg) :
    ∃ u, exec (.mrcDbgdtrrxext c t) s = .next u ∧ OutcomeOf (.mrcDbgdtrrxext c t) s u := by
  have hx : t.setWidth 5 ∈ (Instr.mrcDbgdtrrxext c t).writesX := List.mem_singleton.mpr rfl
  exact ⟨_, rfl, outcome32 (dcc32Chain_sound s) (fun _ _ _ => Access_setR s t _ hx) (Access_setR s t 0 hx)⟩

theorem outcome_mcrDbgdtrrxext (s : State) (c : Cond) (t : RReg) :
    ∃ u, exec (.mcrDbgdtrrxext c t) s = .next u ∧ OutcomeOf (.mcrDbgdtrrxext c t) s u := 
  ⟨_, rfl, outcome32 (dcc32Chain_sound s) (fun _ _ _ => Access_dbg s _ rfl) (Access_refl _ s)⟩

theorem outcome_mrcDbgdtrtxext (s : State) (c : Cond) (t : RReg) :
    ∃ u, exec (.mrcDbgdtrtxext c t) s = .next u ∧ OutcomeOf (.mrcDbgdtrtxext c t) s u := by
  have hx : t.setWidth 5 ∈ (Instr.mrcDbgdtrtxext c t).writesX := List.mem_singleton.mpr rfl
  exact ⟨_, rfl, outcome32 (dcc32Chain_sound s) (fun _ _ _ => Access_setR s t _ hx) (Access_setR s t 0 hx)⟩

theorem outcome_mcrDbgdtrtxext (s : State) (c : Cond) (t : RReg) :
    ∃ u, exec (.mcrDbgdtrtxext c t) s = .next u ∧ OutcomeOf (.mcrDbgdtrtxext c t) s u := 
  ⟨_, rfl, outcome32 (dcc32Chain_sound s) (fun _ _ _ => Access_dbg s _ rfl) (Access_refl _ s)⟩

theorem outcome_mrcDbgdscrext (s : State) (c : Cond) (t : RReg) :
    ∃ u, exec (.mrcDbgdscrext c t) s = .next u ∧ OutcomeOf (.mrcDbgdscrext c t) s u := by
  have hx : t.setWidth 5 ∈ (Instr.mrcDbgdscrext c t).writesX := List.mem_singleton.mpr rfl
  exact ⟨_, rfl, outcome32 (tda32Chain_sound s) (fun _ _ _ => Access_setR s t _ hx) (Access_setR s t 0 hx)⟩

theorem outcome_mcrDbgdscrext (s : State) (c : Cond) (t : RReg) :
    ∃ u, exec (.mcrDbgdscrext c t) s = .next u ∧ OutcomeOf (.mcrDbgdscrext c t) s u := 
  ⟨_, rfl, outcome32 (tda32Chain_sound s) (fun _ _ _ => Access_dbg s _ rfl) (Access_refl _ s)⟩

theorem outcome_mrcDbgwfar (s : State) (c : Cond) (t : RReg) :
    ∃ u, exec (.mrcDbgwfar c t) s = .next u ∧ OutcomeOf (.mrcDbgwfar c t) s u := by
  have hx : t.setWidth 5 ∈ (Instr.mrcDbgwfar c t).writesX := List.mem_singleton.mpr rfl
  exact ⟨_, rfl, outcome32 (tda32Chain_sound s) (fun _ _ _ => Access_setR s t _ hx) (Access_setR s t 0 hx)⟩

theorem outcome_mcrDbgwfar (s : State) (c : Cond) (t : RReg) :
    ∃ u, exec (.mcrDbgwfar c t) s = .next u ∧ OutcomeOf (.mcrDbgwfar c t) s u := 
  ⟨_, rfl, outcome32 (tda32Chain_sound s) (fun _ _ _ => Access_dbg s _ rfl) (Access_refl _ s)⟩

theorem outcome_mrcDbgvcr (s : State) (c : Cond) (t : RReg) :
    ∃ u, exec (.mrcDbgvcr c t) s = .next u ∧ OutcomeOf (.mrcDbgvcr c t) s u := by
  have hx : t.setWidth 5 ∈ (Instr.mrcDbgvcr c t).writesX := List.mem_singleton.mpr rfl
  exact ⟨_, rfl, outcome32 (tda32Chain_sound s) (fun _ _ _ => Access_setR s t _ hx) (Access_setR s t 0 hx)⟩

theorem outcome_mcrDbgvcr (s : State) (c : Cond) (t : RReg) :
    ∃ u, exec (.mcrDbgvcr c t) s = .next u ∧ OutcomeOf (.mcrDbgvcr c t) s u := 
  ⟨_, rfl, outcome32 (tda32Chain_sound s) (fun _ _ _ => Access_dbg s _ rfl) (Access_refl _ s)⟩

theorem outcome_mrcDbgoseccr (s : State) (c : Cond) (t : RReg) :
    ∃ u, exec (.mrcDbgoseccr c t) s = .next u ∧ OutcomeOf (.mrcDbgoseccr c t) s u := by
  have hx : t.setWidth 5 ∈ (Instr.mrcDbgoseccr c t).writesX := List.mem_singleton.mpr rfl
  exact ⟨_, rfl, outcome32 (tda32Chain_sound s) (fun _ _ _ => Access_setR s t _ hx) (Access_setR s t 0 hx)⟩

theorem outcome_mcrDbgoseccr (s : State) (c : Cond) (t : RReg) :
    ∃ u, exec (.mcrDbgoseccr c t) s = .next u ∧ OutcomeOf (.mcrDbgoseccr c t) s u := 
  ⟨_, rfl, outcome32 (tda32Chain_sound s) (fun _ _ _ => Access_dbg s _ rfl) (Access_refl _ s)⟩

theorem outcome_mrcDbgbvr (s : State) (c : Cond) (n : BitVec 4) (t : RReg) :
    ∃ u, exec (.mrcDbgbvr c n t) s = .next u ∧ OutcomeOf (.mrcDbgbvr c n t) s u := by
  have hx : t.setWidth 5 ∈ (Instr.mrcDbgbvr c n t).writesX := List.mem_singleton.mpr rfl
  exact ⟨_, rfl, outcome32 (break32Chain_sound s _ _) (fun _ _ _ => Access_setR s t _ hx) (Access_setR s t 0 hx)⟩

theorem outcome_mcrDbgbvr (s : State) (c : Cond) (n : BitVec 4) (t : RReg) :
    ∃ u, exec (.mcrDbgbvr c n t) s = .next u ∧ OutcomeOf (.mcrDbgbvr c n t) s u := 
  ⟨_, rfl, outcome32 (break32Chain_sound s _ _) (fun _ _ _ => Access_dbg s _ rfl) (Access_refl _ s)⟩

theorem outcome_mrcDbgbcr (s : State) (c : Cond) (n : BitVec 4) (t : RReg) :
    ∃ u, exec (.mrcDbgbcr c n t) s = .next u ∧ OutcomeOf (.mrcDbgbcr c n t) s u := by
  have hx : t.setWidth 5 ∈ (Instr.mrcDbgbcr c n t).writesX := List.mem_singleton.mpr rfl
  exact ⟨_, rfl, outcome32 (break32Chain_sound s _ _) (fun _ _ _ => Access_setR s t _ hx) (Access_setR s t 0 hx)⟩

theorem outcome_mcrDbgbcr (s : State) (c : Cond) (n : BitVec 4) (t : RReg) :
    ∃ u, exec (.mcrDbgbcr c n t) s = .next u ∧ OutcomeOf (.mcrDbgbcr c n t) s u := 
  ⟨_, rfl, outcome32 (break32Chain_sound s _ _) (fun _ _ _ => Access_dbg s _ rfl) (Access_refl _ s)⟩

theorem outcome_mrcDbgwvr (s : State) (c : Cond) (n : BitVec 4) (t : RReg) :
    ∃ u, exec (.mrcDbgwvr c n t) s = .next u ∧ OutcomeOf (.mrcDbgwvr c n t) s u := by
  have hx : t.setWidth 5 ∈ (Instr.mrcDbgwvr c n t).writesX := List.mem_singleton.mpr rfl
  exact ⟨_, rfl, outcome32 (break32Chain_sound s _ _) (fun _ _ _ => Access_setR s t _ hx) (Access_setR s t 0 hx)⟩

theorem outcome_mcrDbgwvr (s : State) (c : Cond) (n : BitVec 4) (t : RReg) :
    ∃ u, exec (.mcrDbgwvr c n t) s = .next u ∧ OutcomeOf (.mcrDbgwvr c n t) s u := 
  ⟨_, rfl, outcome32 (break32Chain_sound s _ _) (fun _ _ _ => Access_dbg s _ rfl) (Access_refl _ s)⟩

theorem outcome_mrcDbgwcr (s : State) (c : Cond) (n : BitVec 4) (t : RReg) :
    ∃ u, exec (.mrcDbgwcr c n t) s = .next u ∧ OutcomeOf (.mrcDbgwcr c n t) s u := by
  have hx : t.setWidth 5 ∈ (Instr.mrcDbgwcr c n t).writesX := List.mem_singleton.mpr rfl
  exact ⟨_, rfl, outcome32 (break32Chain_sound s _ _) (fun _ _ _ => Access_setR s t _ hx) (Access_setR s t 0 hx)⟩

theorem outcome_mcrDbgwcr (s : State) (c : Cond) (n : BitVec 4) (t : RReg) :
    ∃ u, exec (.mcrDbgwcr c n t) s = .next u ∧ OutcomeOf (.mcrDbgwcr c n t) s u := 
  ⟨_, rfl, outcome32 (break32Chain_sound s _ _) (fun _ _ _ => Access_dbg s _ rfl) (Access_refl _ s)⟩

theorem outcome_mrcDbgbxvr (s : State) (c : Cond) (n : BitVec 4) (t : RReg) :
    ∃ u, exec (.mrcDbgbxvr c n t) s = .next u ∧ OutcomeOf (.mrcDbgbxvr c n t) s u := by
  have hx : t.setWidth 5 ∈ (Instr.mrcDbgbxvr c n t).writesX := List.mem_singleton.mpr rfl
  exact ⟨_, rfl, outcome32 (break32Chain_sound s _ _) (fun _ _ _ => Access_setR s t _ hx) (Access_setR s t 0 hx)⟩

theorem outcome_mcrDbgbxvr (s : State) (c : Cond) (n : BitVec 4) (t : RReg) :
    ∃ u, exec (.mcrDbgbxvr c n t) s = .next u ∧ OutcomeOf (.mcrDbgbxvr c n t) s u := 
  ⟨_, rfl, outcome32 (break32Chain_sound s _ _) (fun _ _ _ => Access_dbg s _ rfl) (Access_refl _ s)⟩

theorem outcome_mrcDbgclaimset (s : State) (c : Cond) (t : RReg) :
    ∃ u, exec (.mrcDbgclaimset c t) s = .next u ∧ OutcomeOf (.mrcDbgclaimset c t) s u := by
  have hx : t.setWidth 5 ∈ (Instr.mrcDbgclaimset c t).writesX := List.mem_singleton.mpr rfl
  exact ⟨_, rfl, outcome32 (tda32Chain_sound s) (fun _ _ _ => Access_setR s t _ hx) (Access_setR s t 0 hx)⟩

theorem outcome_mcrDbgclaimset (s : State) (c : Cond) (t : RReg) :
    ∃ u, exec (.mcrDbgclaimset c t) s = .next u ∧ OutcomeOf (.mcrDbgclaimset c t) s u := 
  ⟨_, rfl, outcome32 (tda32Chain_sound s) (fun _ _ _ => Access_dbg s _ rfl) (Access_refl _ s)⟩

theorem outcome_mrcDbgclaimclr (s : State) (c : Cond) (t : RReg) :
    ∃ u, exec (.mrcDbgclaimclr c t) s = .next u ∧ OutcomeOf (.mrcDbgclaimclr c t) s u := by
  have hx : t.setWidth 5 ∈ (Instr.mrcDbgclaimclr c t).writesX := List.mem_singleton.mpr rfl
  exact ⟨_, rfl, outcome32 (tda32Chain_sound s) (fun _ _ _ => Access_setR s t _ hx) (Access_setR s t 0 hx)⟩

theorem outcome_mcrDbgclaimclr (s : State) (c : Cond) (t : RReg) :
    ∃ u, exec (.mcrDbgclaimclr c t) s = .next u ∧ OutcomeOf (.mcrDbgclaimclr c t) s u := 
  ⟨_, rfl, outcome32 (tda32Chain_sound s) (fun _ _ _ => Access_dbg s _ rfl) (Access_refl _ s)⟩

theorem outcome_mrcDbgauthstatus (s : State) (c : Cond) (t : RReg) :
    ∃ u, exec (.mrcDbgauthstatus c t) s = .next u ∧ OutcomeOf (.mrcDbgauthstatus c t) s u := by
  have hx : t.setWidth 5 ∈ (Instr.mrcDbgauthstatus c t).writesX := List.mem_singleton.mpr rfl
  exact ⟨_, rfl, outcome32 (tda32Chain_sound s) (fun _ _ _ => Access_setR s t _ hx) (Access_setR s t 0 hx)⟩

theorem outcome_mrcDbgdevid (s : State) (c : Cond) (t : RReg) :
    ∃ u, exec (.mrcDbgdevid c t) s = .next u ∧ OutcomeOf (.mrcDbgdevid c t) s u := by
  have hx : t.setWidth 5 ∈ (Instr.mrcDbgdevid c t).writesX := List.mem_singleton.mpr rfl
  exact ⟨_, rfl, outcome32 (tda32Chain_sound s) (fun _ _ _ => Access_setR s t _ hx) (Access_setR s t 0 hx)⟩

theorem outcome_mrcDbgdevid1 (s : State) (c : Cond) (t : RReg) :
    ∃ u, exec (.mrcDbgdevid1 c t) s = .next u ∧ OutcomeOf (.mrcDbgdevid1 c t) s u := by
  have hx : t.setWidth 5 ∈ (Instr.mrcDbgdevid1 c t).writesX := List.mem_singleton.mpr rfl
  exact ⟨_, rfl, outcome32 (tda32Chain_sound s) (fun _ _ _ => Access_setR s t _ hx) (Access_setR s t 0 hx)⟩

theorem outcome_mrcDbgdevid2 (s : State) (c : Cond) (t : RReg) :
    ∃ u, exec (.mrcDbgdevid2 c t) s = .next u ∧ OutcomeOf (.mrcDbgdevid2 c t) s u := by
  have hx : t.setWidth 5 ∈ (Instr.mrcDbgdevid2 c t).writesX := List.mem_singleton.mpr rfl
  exact ⟨_, rfl, outcome32 (tda32Chain_sound s) (fun _ _ _ => Access_setR s t _ hx) (Access_setR s t 0 hx)⟩

theorem outcome_mrcDbgdrar (s : State) (c : Cond) (t : RReg) :
    ∃ u, exec (.mrcDbgdrar c t) s = .next u ∧ OutcomeOf (.mrcDbgdrar c t) s u := by
  have hx : t.setWidth 5 ∈ (Instr.mrcDbgdrar c t).writesX := List.mem_singleton.mpr rfl
  exact ⟨_, rfl, outcome32 (tdra32Chain_sound s) (fun _ _ _ => Access_setR s t _ hx) (Access_setR s t 0 hx)⟩

theorem outcome_mrcDbgdsar (s : State) (c : Cond) (t : RReg) :
    ∃ u, exec (.mrcDbgdsar c t) s = .next u ∧ OutcomeOf (.mrcDbgdsar c t) s u := by
  have hx : t.setWidth 5 ∈ (Instr.mrcDbgdsar c t).writesX := List.mem_singleton.mpr rfl
  exact ⟨_, rfl, outcome32 (tdra32Chain_sound s) (fun _ _ _ => Access_setR s t _ hx) (Access_setR s t 0 hx)⟩

theorem outcome_mcrDbgoslar (s : State) (c : Cond) (t : RReg) :
    ∃ u, exec (.mcrDbgoslar c t) s = .next u ∧ OutcomeOf (.mcrDbgoslar c t) s u := 
  ⟨_, rfl, outcome32 (tdosa32Chain_sound s _ _) (fun _ _ _ => Access_dbg s _ rfl) (Access_refl _ s)⟩

theorem outcome_mrcDbgoslsr (s : State) (c : Cond) (t : RReg) :
    ∃ u, exec (.mrcDbgoslsr c t) s = .next u ∧ OutcomeOf (.mrcDbgoslsr c t) s u := by
  have hx : t.setWidth 5 ∈ (Instr.mrcDbgoslsr c t).writesX := List.mem_singleton.mpr rfl
  exact ⟨_, rfl, outcome32 (tdosa32Chain_sound s _ _) (fun _ _ _ => Access_setR s t _ hx) (Access_setR s t 0 hx)⟩

theorem outcome_mrcDbgosdlr (s : State) (c : Cond) (t : RReg) :
    ∃ u, exec (.mrcDbgosdlr c t) s = .next u ∧ OutcomeOf (.mrcDbgosdlr c t) s u := by
  have hx : t.setWidth 5 ∈ (Instr.mrcDbgosdlr c t).writesX := List.mem_singleton.mpr rfl
  exact ⟨_, rfl, outcome32 (tdosa32Chain_sound s _ _) (fun _ _ _ => Access_setR s t _ hx) (Access_setR s t 0 hx)⟩

theorem outcome_mcrDbgosdlr (s : State) (c : Cond) (t : RReg) :
    ∃ u, exec (.mcrDbgosdlr c t) s = .next u ∧ OutcomeOf (.mcrDbgosdlr c t) s u := 
  ⟨_, rfl, outcome32 (tdosa32Chain_sound s _ _) (fun _ _ _ => Access_dbg s _ rfl) (Access_refl _ s)⟩

theorem outcome_mrcDbgprcr (s : State) (c : Cond) (t : RReg) :
    ∃ u, exec (.mrcDbgprcr c t) s = .next u ∧ OutcomeOf (.mrcDbgprcr c t) s u := by
  have hx : t.setWidth 5 ∈ (Instr.mrcDbgprcr c t).writesX := List.mem_singleton.mpr rfl
  exact ⟨_, rfl, outcome32 (tdosa32Chain_sound s _ _) (fun _ _ _ => Access_setR s t _ hx) (Access_setR s t 0 hx)⟩

theorem outcome_mcrDbgprcr (s : State) (c : Cond) (t : RReg) :
    ∃ u, exec (.mcrDbgprcr c t) s = .next u ∧ OutcomeOf (.mcrDbgprcr c t) s u := 
  ⟨_, rfl, outcome32 (tdosa32Chain_sound s _ _) (fun _ _ _ => Access_dbg s _ rfl) (Access_refl _ s)⟩

theorem outcome_mrcTrfcr (s : State) (c : Cond) (t : RReg) :
    ∃ u, exec (.mrcTrfcr c t) s = .next u ∧ OutcomeOf (.mrcTrfcr c t) s u := by
  have hx : t.setWidth 5 ∈ (Instr.mrcTrfcr c t).writesX := List.mem_singleton.mpr rfl
  exact ⟨_, rfl, outcome32 (trfcr32Chain_sound s) (fun _ _ _ => Access_setR s t _ hx) (Access_setR s t 0 hx)⟩

theorem outcome_mcrTrfcr (s : State) (c : Cond) (t : RReg) :
    ∃ u, exec (.mcrTrfcr c t) s = .next u ∧ OutcomeOf (.mcrTrfcr c t) s u := 
  ⟨_, rfl, outcome32 (trfcr32Chain_sound s) (fun _ _ _ => Access_spe _ rfl) (Access_refl _ s)⟩

theorem outcome_mrcPmcr (s : State) (c : Cond) (t : RReg) :
    ∃ u, exec (.mrcPmcr c t) s = .next u ∧ OutcomeOf (.mrcPmcr c t) s u := by
  have hx : t.setWidth 5 ∈ (Instr.mrcPmcr c t).writesX := List.mem_singleton.mpr rfl
  exact ⟨_, rfl, outcome32 (pmu32Chain_sound s _ _ _ _ _ _ (access32_sound s _) (fun d hd => by cases hd)) (fun _ _ _ => Access_setR s t _ hx) (Access_setR s t 0 hx)⟩

theorem outcome_mcrPmcr (s : State) (c : Cond) (t : RReg) :
    ∃ u, exec (.mcrPmcr c t) s = .next u ∧ OutcomeOf (.mcrPmcr c t) s u := 
  ⟨_, rfl, outcome32 (pmu32Chain_sound s _ _ _ _ _ _ (access32_sound s _) (fun d hd => by cases hd)) (fun _ _ _ => Access_pmcr s _ rfl) (Access_refl _ s)⟩

theorem outcome_mrcPmcntenset (s : State) (c : Cond) (t : RReg) :
    ∃ u, exec (.mrcPmcntenset c t) s = .next u ∧ OutcomeOf (.mrcPmcntenset c t) s u := by
  have hx : t.setWidth 5 ∈ (Instr.mrcPmcntenset c t).writesX := List.mem_singleton.mpr rfl
  exact ⟨_, rfl, outcome32 (pmu32Chain_sound s _ _ _ _ _ _ (access32_sound s _) (fun d hd => by cases hd)) (fun _ _ _ => Access_setR s t _ hx) (Access_setR s t 0 hx)⟩

theorem outcome_mcrPmcntenset (s : State) (c : Cond) (t : RReg) :
    ∃ u, exec (.mcrPmcntenset c t) s = .next u ∧ OutcomeOf (.mcrPmcntenset c t) s u := 
  ⟨_, rfl, outcome32 (pmu32Chain_sound s _ _ _ _ _ _ (access32_sound s _) (fun d hd => by cases hd)) (fun _ _ _ => Access_pmu _ rfl (.inl rfl) (fun _ h => h)) (Access_refl _ s)⟩

theorem outcome_mrcPmcntenclr (s : State) (c : Cond) (t : RReg) :
    ∃ u, exec (.mrcPmcntenclr c t) s = .next u ∧ OutcomeOf (.mrcPmcntenclr c t) s u := by
  have hx : t.setWidth 5 ∈ (Instr.mrcPmcntenclr c t).writesX := List.mem_singleton.mpr rfl
  exact ⟨_, rfl, outcome32 (pmu32Chain_sound s _ _ _ _ _ _ (access32_sound s _) (fun d hd => by cases hd)) (fun _ _ _ => Access_setR s t _ hx) (Access_setR s t 0 hx)⟩

theorem outcome_mcrPmcntenclr (s : State) (c : Cond) (t : RReg) :
    ∃ u, exec (.mcrPmcntenclr c t) s = .next u ∧ OutcomeOf (.mcrPmcntenclr c t) s u := 
  ⟨_, rfl, outcome32 (pmu32Chain_sound s _ _ _ _ _ _ (access32_sound s _) (fun d hd => by cases hd)) (fun _ _ _ => Access_pmu _ rfl (.inl rfl) (fun _ h => h)) (Access_refl _ s)⟩

theorem outcome_mrcPmovsr (s : State) (c : Cond) (t : RReg) :
    ∃ u, exec (.mrcPmovsr c t) s = .next u ∧ OutcomeOf (.mrcPmovsr c t) s u := by
  have hx : t.setWidth 5 ∈ (Instr.mrcPmovsr c t).writesX := List.mem_singleton.mpr rfl
  exact ⟨_, rfl, outcome32 (pmu32Chain_sound s _ _ _ _ _ _ (access32_sound s _) (fun d hd => by cases hd)) (fun _ _ _ => Access_setR s t _ hx) (Access_setR s t 0 hx)⟩

theorem outcome_mcrPmovsr (s : State) (c : Cond) (t : RReg) :
    ∃ u, exec (.mcrPmovsr c t) s = .next u ∧ OutcomeOf (.mcrPmovsr c t) s u := 
  ⟨_, rfl, outcome32 (pmu32Chain_sound s _ _ _ _ _ _ (access32_sound s _) (fun d hd => by cases hd)) (fun _ _ _ => Access_pmu _ rfl (.inl rfl) (fun _ h => h)) (Access_refl _ s)⟩

theorem outcome_mcrPmswinc (s : State) (c : Cond) (t : RReg) :
    ∃ u, exec (.mcrPmswinc c t) s = .next u ∧ OutcomeOf (.mcrPmswinc c t) s u := 
  ⟨_, rfl, outcome32 (pmu32Chain_sound s _ _ _ _ _ _ (access32_sound s _) (fun d hd => by cases hd)) (fun _ _ _ => Access_swinc s _ rfl) (Access_refl _ s)⟩

theorem outcome_mrcPmselr (s : State) (c : Cond) (t : RReg) :
    ∃ u, exec (.mrcPmselr c t) s = .next u ∧ OutcomeOf (.mrcPmselr c t) s u := by
  have hx : t.setWidth 5 ∈ (Instr.mrcPmselr c t).writesX := List.mem_singleton.mpr rfl
  exact ⟨_, rfl, outcome32 (pmu32Chain_sound s _ _ _ _ _ _ (access32_sound s _) (fun d hd => by cases hd)) (fun _ _ _ => Access_setR s t _ hx) (Access_setR s t 0 hx)⟩

theorem outcome_mcrPmselr (s : State) (c : Cond) (t : RReg) :
    ∃ u, exec (.mcrPmselr c t) s = .next u ∧ OutcomeOf (.mcrPmselr c t) s u := 
  ⟨_, rfl, outcome32 (pmu32Chain_sound s _ _ _ _ _ _ (access32_sound s _) (fun d hd => by cases hd)) (fun _ _ _ => Access_pmu _ rfl (.inl rfl) (fun _ h => h)) (Access_refl _ s)⟩

theorem outcome_mrcPmceid0 (s : State) (c : Cond) (t : RReg) :
    ∃ u, exec (.mrcPmceid0 c t) s = .next u ∧ OutcomeOf (.mrcPmceid0 c t) s u := by
  have hx : t.setWidth 5 ∈ (Instr.mrcPmceid0 c t).writesX := List.mem_singleton.mpr rfl
  exact ⟨_, rfl, outcome32 (pmu32Chain_sound s _ _ _ _ _ _ (access32_sound s _) (fun d hd => by cases hd)) (fun _ _ _ => Access_setR s t _ hx) (Access_setR s t 0 hx)⟩

theorem outcome_mrcPmceid1 (s : State) (c : Cond) (t : RReg) :
    ∃ u, exec (.mrcPmceid1 c t) s = .next u ∧ OutcomeOf (.mrcPmceid1 c t) s u := by
  have hx : t.setWidth 5 ∈ (Instr.mrcPmceid1 c t).writesX := List.mem_singleton.mpr rfl
  exact ⟨_, rfl, outcome32 (pmu32Chain_sound s _ _ _ _ _ _ (access32_sound s _) (fun d hd => by cases hd)) (fun _ _ _ => Access_setR s t _ hx) (Access_setR s t 0 hx)⟩

theorem outcome_mrcPmceid2 (s : State) (c : Cond) (t : RReg) :
    ∃ u, exec (.mrcPmceid2 c t) s = .next u ∧ OutcomeOf (.mrcPmceid2 c t) s u := by
  have hx : t.setWidth 5 ∈ (Instr.mrcPmceid2 c t).writesX := List.mem_singleton.mpr rfl
  exact ⟨_, rfl, outcome32 (pmu32Chain_sound s _ _ _ _ _ _ (access32_sound s _) (fun d hd => by cases hd)) (fun _ _ _ => Access_setR s t _ hx) (Access_setR s t 0 hx)⟩

theorem outcome_mrcPmceid3 (s : State) (c : Cond) (t : RReg) :
    ∃ u, exec (.mrcPmceid3 c t) s = .next u ∧ OutcomeOf (.mrcPmceid3 c t) s u := by
  have hx : t.setWidth 5 ∈ (Instr.mrcPmceid3 c t).writesX := List.mem_singleton.mpr rfl
  exact ⟨_, rfl, outcome32 (pmu32Chain_sound s _ _ _ _ _ _ (access32_sound s _) (fun d hd => by cases hd)) (fun _ _ _ => Access_setR s t _ hx) (Access_setR s t 0 hx)⟩

theorem outcome_mrcPmccntr (s : State) (c : Cond) (t : RReg) :
    ∃ u, exec (.mrcPmccntr c t) s = .next u ∧ OutcomeOf (.mrcPmccntr c t) s u := by
  have hx : t.setWidth 5 ∈ (Instr.mrcPmccntr c t).writesX := List.mem_singleton.mpr rfl
  exact ⟨_, rfl, outcome32 (pmu32Chain_sound s _ _ _ _ _ _ (access32_sound s _) (fun d hd => by cases hd)) (fun _ _ _ => Access_setR s t _ hx) (Access_setR s t 0 hx)⟩

theorem outcome_mcrPmccntr (s : State) (c : Cond) (t : RReg) :
    ∃ u, exec (.mcrPmccntr c t) s = .next u ∧ OutcomeOf (.mcrPmccntr c t) s u := 
  ⟨_, rfl, outcome32 (pmu32Chain_sound s _ _ _ _ _ _ (access32_sound s _) (fun d hd => by cases hd)) (fun _ _ _ => Access_pmu _ rfl (.inl rfl) (fun _ h => h)) (Access_refl _ s)⟩

theorem outcome_mrcPmxevtyper (s : State) (c : Cond) (t : RReg) :
    ∃ u, exec (.mrcPmxevtyper c t) s = .next u ∧ OutcomeOf (.mrcPmxevtyper c t) s u := by
  have hx : t.setWidth 5 ∈ (Instr.mrcPmxevtyper c t).writesX := List.mem_singleton.mpr rfl
  exact ⟨_, rfl, outcome32 (counter32Chain_sound s _ _ _ _ _ _) (fun _ _ _ => Access_setR s t _ hx) (Access_setR s t 0 hx)⟩

theorem outcome_mcrPmxevtyper (s : State) (c : Cond) (t : RReg) :
    ∃ u, exec (.mcrPmxevtyper c t) s = .next u ∧ OutcomeOf (.mcrPmxevtyper c t) s u := 
  ⟨_, rfl, outcome32 (counter32Chain_sound s _ _ _ _ _ _) (fun _ _ _ => Access_type s _ _ rfl) (Access_refl _ s)⟩

theorem outcome_mrcPmxevcntr (s : State) (c : Cond) (t : RReg) :
    ∃ u, exec (.mrcPmxevcntr c t) s = .next u ∧ OutcomeOf (.mrcPmxevcntr c t) s u := by
  have hx : t.setWidth 5 ∈ (Instr.mrcPmxevcntr c t).writesX := List.mem_singleton.mpr rfl
  exact ⟨_, rfl, outcome32 (counter32Chain_sound s _ _ _ _ _ _) (fun _ _ _ => Access_setR s t _ hx) (Access_setR s t 0 hx)⟩

theorem outcome_mcrPmxevcntr (s : State) (c : Cond) (t : RReg) :
    ∃ u, exec (.mcrPmxevcntr c t) s = .next u ∧ OutcomeOf (.mcrPmxevcntr c t) s u := 
  ⟨_, rfl, outcome32 (counter32Chain_sound s _ _ _ _ _ _) (fun _ _ _ => Access_counter s _ _ rfl) (Access_refl _ s)⟩

theorem outcome_mrcPmuserenr (s : State) (c : Cond) (t : RReg) :
    ∃ u, exec (.mrcPmuserenr c t) s = .next u ∧ OutcomeOf (.mrcPmuserenr c t) s u := by
  have hx : t.setWidth 5 ∈ (Instr.mrcPmuserenr c t).writesX := List.mem_singleton.mpr rfl
  exact ⟨_, rfl, outcome32 (pmu32Chain_sound s _ _ _ _ _ _ (access32_sound s _) (fun d hd => by cases hd)) (fun _ _ _ => Access_setR s t _ hx) (Access_setR s t 0 hx)⟩

theorem outcome_mcrPmuserenr (s : State) (c : Cond) (t : RReg) :
    ∃ u, exec (.mcrPmuserenr c t) s = .next u ∧ OutcomeOf (.mcrPmuserenr c t) s u := 
  ⟨_, rfl, outcome32 (pmu32Chain_sound s _ _ _ _ _ _ (access32_sound s _) (fun d hd => by cases hd)) (fun _ _ _ => Access_pmu _ rfl (.inl rfl) (fun _ h => h)) (Access_refl _ s)⟩

theorem outcome_mrcPmintenset (s : State) (c : Cond) (t : RReg) :
    ∃ u, exec (.mrcPmintenset c t) s = .next u ∧ OutcomeOf (.mrcPmintenset c t) s u := by
  have hx : t.setWidth 5 ∈ (Instr.mrcPmintenset c t).writesX := List.mem_singleton.mpr rfl
  exact ⟨_, rfl, outcome32 (pmu32Chain_sound s _ _ _ _ _ _ (access32_sound s _) (fun d hd => by cases hd)) (fun _ _ _ => Access_setR s t _ hx) (Access_setR s t 0 hx)⟩

theorem outcome_mcrPmintenset (s : State) (c : Cond) (t : RReg) :
    ∃ u, exec (.mcrPmintenset c t) s = .next u ∧ OutcomeOf (.mcrPmintenset c t) s u := 
  ⟨_, rfl, outcome32 (pmu32Chain_sound s _ _ _ _ _ _ (access32_sound s _) (fun d hd => by cases hd)) (fun _ _ _ => Access_pmu _ rfl (.inl rfl) (fun _ h => h)) (Access_refl _ s)⟩

theorem outcome_mrcPmintenclr (s : State) (c : Cond) (t : RReg) :
    ∃ u, exec (.mrcPmintenclr c t) s = .next u ∧ OutcomeOf (.mrcPmintenclr c t) s u := by
  have hx : t.setWidth 5 ∈ (Instr.mrcPmintenclr c t).writesX := List.mem_singleton.mpr rfl
  exact ⟨_, rfl, outcome32 (pmu32Chain_sound s _ _ _ _ _ _ (access32_sound s _) (fun d hd => by cases hd)) (fun _ _ _ => Access_setR s t _ hx) (Access_setR s t 0 hx)⟩

theorem outcome_mcrPmintenclr (s : State) (c : Cond) (t : RReg) :
    ∃ u, exec (.mcrPmintenclr c t) s = .next u ∧ OutcomeOf (.mcrPmintenclr c t) s u := 
  ⟨_, rfl, outcome32 (pmu32Chain_sound s _ _ _ _ _ _ (access32_sound s _) (fun d hd => by cases hd)) (fun _ _ _ => Access_pmu _ rfl (.inl rfl) (fun _ h => h)) (Access_refl _ s)⟩

theorem outcome_mrcPmovsset (s : State) (c : Cond) (t : RReg) :
    ∃ u, exec (.mrcPmovsset c t) s = .next u ∧ OutcomeOf (.mrcPmovsset c t) s u := by
  have hx : t.setWidth 5 ∈ (Instr.mrcPmovsset c t).writesX := List.mem_singleton.mpr rfl
  exact ⟨_, rfl, outcome32 (pmu32Chain_sound s _ _ _ _ _ _ (access32_sound s _) (fun d hd => by cases hd)) (fun _ _ _ => Access_setR s t _ hx) (Access_setR s t 0 hx)⟩

theorem outcome_mcrPmovsset (s : State) (c : Cond) (t : RReg) :
    ∃ u, exec (.mcrPmovsset c t) s = .next u ∧ OutcomeOf (.mcrPmovsset c t) s u := 
  ⟨_, rfl, outcome32 (pmu32Chain_sound s _ _ _ _ _ _ (access32_sound s _) (fun d hd => by cases hd)) (fun _ _ _ => Access_pmu _ rfl (.inl rfl) (fun _ h => h)) (Access_refl _ s)⟩

theorem outcome_mrcPmmir (s : State) (c : Cond) (t : RReg) :
    ∃ u, exec (.mrcPmmir c t) s = .next u ∧ OutcomeOf (.mrcPmmir c t) s u := by
  have hx : t.setWidth 5 ∈ (Instr.mrcPmmir c t).writesX := List.mem_singleton.mpr rfl
  exact ⟨_, rfl, outcome32 (pmu32Chain_sound s _ _ _ _ _ _ (access32_sound s _) (fun d hd => by cases hd)) (fun _ _ _ => Access_setR s t _ hx) (Access_setR s t 0 hx)⟩

theorem outcome_mrcPmccfiltr (s : State) (c : Cond) (t : RReg) :
    ∃ u, exec (.mrcPmccfiltr c t) s = .next u ∧ OutcomeOf (.mrcPmccfiltr c t) s u := by
  have hx : t.setWidth 5 ∈ (Instr.mrcPmccfiltr c t).writesX := List.mem_singleton.mpr rfl
  exact ⟨_, rfl, outcome32 (pmu32Chain_sound s _ _ _ _ _ _ (access32_sound s _) (fun d hd => by cases hd)) (fun _ _ _ => Access_setR s t _ hx) (Access_setR s t 0 hx)⟩

theorem outcome_mcrPmccfiltr (s : State) (c : Cond) (t : RReg) :
    ∃ u, exec (.mcrPmccfiltr c t) s = .next u ∧ OutcomeOf (.mcrPmccfiltr c t) s u := 
  ⟨_, rfl, outcome32 (pmu32Chain_sound s _ _ _ _ _ _ (access32_sound s _) (fun d hd => by cases hd)) (fun _ _ _ => Access_pmu _ rfl (.inl rfl) (fun _ h => h)) (Access_refl _ s)⟩

theorem outcome_mrcPmevcntr (s : State) (c : Cond) (n : BitVec 5) (t : RReg) :
    ∃ u, exec (.mrcPmevcntr c n t) s = .next u ∧ OutcomeOf (.mrcPmevcntr c n t) s u := by
  have hx : t.setWidth 5 ∈ (Instr.mrcPmevcntr c n t).writesX := List.mem_singleton.mpr rfl
  exact ⟨_, rfl, outcome32 (counter32Chain_sound s _ _ _ _ _ _) (fun _ _ _ => Access_setR s t _ hx) (Access_setR s t 0 hx)⟩

theorem outcome_mcrPmevcntr (s : State) (c : Cond) (n : BitVec 5) (t : RReg) :
    ∃ u, exec (.mcrPmevcntr c n t) s = .next u ∧ OutcomeOf (.mcrPmevcntr c n t) s u := 
  ⟨_, rfl, outcome32 (counter32Chain_sound s _ _ _ _ _ _) (fun _ _ _ => Access_counter s _ _ rfl) (Access_refl _ s)⟩

theorem outcome_mrcPmevtyper (s : State) (c : Cond) (n : BitVec 5) (t : RReg) :
    ∃ u, exec (.mrcPmevtyper c n t) s = .next u ∧ OutcomeOf (.mrcPmevtyper c n t) s u := by
  have hx : t.setWidth 5 ∈ (Instr.mrcPmevtyper c n t).writesX := List.mem_singleton.mpr rfl
  exact ⟨_, rfl, outcome32 (counter32Chain_sound s _ _ _ _ _ _) (fun _ _ _ => Access_setR s t _ hx) (Access_setR s t 0 hx)⟩

theorem outcome_mcrPmevtyper (s : State) (c : Cond) (n : BitVec 5) (t : RReg) :
    ∃ u, exec (.mcrPmevtyper c n t) s = .next u ∧ OutcomeOf (.mcrPmevtyper c n t) s u := 
  ⟨_, rfl, outcome32 (counter32Chain_sound s _ _ _ _ _ _) (fun _ _ _ => Access_pmu _ rfl (.inl rfl) (fun _ h => h)) (Access_refl _ s)⟩

theorem Access_setR2 {i : Instr} (s : State) (t t2 : RReg) (v v2 : Word32) (h : t.setWidth 5 ∈ i.writesX)
    (h2 : t2.setWidth 5 ∈ i.writesX) : Access i s ((s.setR t v).setR t2 v2) :=
  Access_debug (by rw [State.setR_eq (s.setR t v), State.setR_eq s])
    (fun r hr => by rw [getX_setR _ t2 r v2 (fun e => hr (e ▸ h2)), getX_setR s t r v (fun e => hr (e ▸ h))])
    (.inr (by rw [State.setR_eq (s.setR t v), State.setR_eq s])) (.inl (by rw [State.setR_eq (s.setR t v), State.setR_eq s]))
    (by rw [State.setR_eq (s.setR t v), State.setR_eq s]; exact id)

theorem outcome_mrrcDbgdrar (s : State) (c : Cond) (t t2 : RReg) :
    ∃ u, exec (.mrrcDbgdrar c t t2) s = .next u ∧ OutcomeOf (.mrrcDbgdrar c t t2) s u := by
  have h1 : t.setWidth 5 ∈ (Instr.mrrcDbgdrar c t t2).writesX := List.mem_cons_self
  have h2 : t2.setWidth 5 ∈ (Instr.mrrcDbgdrar c t t2).writesX := List.mem_cons_of_mem _ (List.mem_singleton.mpr rfl)
  exact ⟨_, rfl, outcome32 (tdra32Chain_sound s) (fun _ _ _ => Access_setR2 s t t2 _ _ h1 h2) (Access_setR2 s t t2 0 0 h1 h2)⟩

theorem outcome_mrrcDbgdsar (s : State) (c : Cond) (t t2 : RReg) :
    ∃ u, exec (.mrrcDbgdsar c t t2) s = .next u ∧ OutcomeOf (.mrrcDbgdsar c t t2) s u := by
  have h1 : t.setWidth 5 ∈ (Instr.mrrcDbgdsar c t t2).writesX := List.mem_cons_self
  have h2 : t2.setWidth 5 ∈ (Instr.mrrcDbgdsar c t t2).writesX := List.mem_cons_of_mem _ (List.mem_singleton.mpr rfl)
  exact ⟨_, rfl, outcome32 (tdra32Chain_sound s) (fun _ _ _ => Access_setR2 s t t2 _ _ h1 h2) (Access_setR2 s t t2 0 0 h1 h2)⟩

theorem outcome_mrrcPmccntr (s : State) (c : Cond) (t t2 : RReg) :
    ∃ u, exec (.mrrcPmccntr c t t2) s = .next u ∧ OutcomeOf (.mrrcPmccntr c t t2) s u := by
  have h1 : t.setWidth 5 ∈ (Instr.mrrcPmccntr c t t2).writesX := List.mem_cons_self
  have h2 : t2.setWidth 5 ∈ (Instr.mrrcPmccntr c t t2).writesX := List.mem_cons_of_mem _ (List.mem_singleton.mpr rfl)
  exact ⟨_, rfl, outcome32 (pmu32Chain_sound s _ _ _ _ _ _ (access32_sound s _) (fun d hd => by cases hd)) (fun _ _ _ => Access_setR2 s t t2 _ _ h1 h2) (Access_setR2 s t t2 0 0 h1 h2)⟩

theorem outcome_mcrrPmccntr (s : State) (c : Cond) (t t2 : RReg) :
    ∃ u, exec (.mcrrPmccntr c t t2) s = .next u ∧ OutcomeOf (.mcrrPmccntr c t t2) s u :=
  ⟨_, rfl, outcome32 (pmu32Chain_sound s _ _ _ _ _ _ (access32_sound s _) (fun d hd => by cases hd))
    (fun _ _ _ => Access_pmu _ rfl (.inl rfl) (fun _ h => h)) (Access_refl _ s)⟩

theorem dcc32Tail_access {s : State} {k : Nat} (h : dcc32Tail true s = .access k) :
    (!(s.a64EL3 && (s.tdcc3 || s.tda3)) && !(s.a32EL3 && s.sdcrTdcc)) = true := by
  unfold dcc32Tail at h
  revert h
  cases s.a64EL3 <;> cases s.tdcc3 <;> cases s.tda3 <;> cases s.a32EL3 <;> cases s.sdcrTdcc <;> simp_all

theorem dcc32El1_access {s : State} {k : Nat} (h : dcc32El1 true s = .access k) :
    (!(s.el2Enabled && (s.tdcc || s.tde || s.tda))) = true ∧ dcc32Tail true s = .access k := by
  unfold dcc32El1 State.tdx at h
  rw [el2Enabled_eq]
  generalize dcc32Tail true s = d at *
  revert h
  cases s.a64EL2 <;> cases s.a32EL2 <;> cases s.tdcc <;> cases s.tde <;> cases s.tda <;> simp_all

theorem user32First_access {s : State} {k : Nat} {d : Decision32} (h : user32First d s = .access k) :
    s.udccDis = false ∧ d = .access k := by
  unfold user32First at h
  revert h
  cases s.udccDis <;> cases s.inp.el1A32 <;> cases s.a64EL2 <;> cases s.a32EL2 <;> cases s.tge <;> simp_all

theorem dtr32Chain_access {s : State} {k : Nat} (h : dtr32Chain s = .access k) : s.dtr32Open = true := by
  unfold dtr32Chain dcc32UserChain at h
  unfold State.dtr32Open State.dcc32UserOpen
  cases hh : s.inp.halted
  · rw [hh, if_neg (by simp)] at h
    cases he : s.ps.el <;> simp only [he] at h ⊢
    · obtain ⟨h1, h2⟩ := user32First_access h
      rw [h1]
      have h3 : (!(s.el2Enabled && (s.tge || s.tdcc || s.tde || s.tda))) = true ∧ dcc32Tail true s = .access k := by
        unfold State.tdx at h2
        rw [el2Enabled_eq]
        generalize dcc32Tail true s = d at *
        revert h2
        cases s.a64EL2 <;> cases s.a32EL2 <;> cases s.tdcc <;> cases s.tge <;> cases s.tde <;> cases s.tda <;> simp_all
      have h4 := dcc32Tail_access h3.2
      simp_all
    · have h3 := dcc32El1_access h
      have h4 := dcc32Tail_access h3.2
      simp_all
    · have h4 := dcc32Tail_access h
      simp_all
    · rfl
  · rfl

theorem outcome_ldcDbgdtrtxint (s : State) (c : Cond) (p u w : Bool) (rn : RReg) (imm8 : BitVec 8) :
    ∃ v, exec (.ldcDbgdtrtxint c p u w rn imm8) s = .next v ∧ OutcomeOf (.ldcDbgdtrtxint c p u w rn imm8) s v :=
  ⟨_, rfl, outcome32 (dtr32Chain_sound s)
    (fun _ _ _ => Access_debug (by unfold State.dtrTxWrite; simp only; rw [memWriteBack_x])
      (fun r hr => memWriteBack_getX s ⟨p, u, w, rn, imm8⟩ _ r hr) (.inl rfl)
      (.inl (by unfold State.dtrTxWrite; rw [memWriteBack_x]))
      (by unfold State.dtrTxWrite; rw [memWriteBack_x]; exact id)) (Access_refl _ s)⟩

theorem outcome_stcDbgdtrrxint (s : State) (c : Cond) (p u w : Bool) (rn : RReg) (imm8 : BitVec 8) :
    ∃ v, exec (.stcDbgdtrrxint c p u w rn imm8) s = .next v ∧ OutcomeOf (.stcDbgdtrrxint c p u w rn imm8) s v := by
  refine ⟨_, rfl, outcome32 (dtr32Chain_sound s) (fun hc k hk => ?_) (Access_refl _ s)⟩
  have ho := dtr32Chain_access hk
  refine Access_debug ?_ ?_ (.inl rfl) (.inr ⟨(s.memAddress ⟨p, u, w, rn, imm8⟩, 4), ?_, ?_⟩) ?_
  · rw [memWriteBack_x, State.store_eq]; rfl
  · intro r hr
    rw [memWriteBack_getX _ ⟨p, u, w, rn, imm8⟩ _ r hr, State.store_eq]; rfl
  · exact if_pos (by simp [hc, ho])
  · intro b hb
    have := State.byteAt_store_out s s.bigEndianData (s.memAddress ⟨p, u, w, rn, imm8⟩) b 4 s.dbg.dtrRx.toNat hb (by decide)
    rw [memWriteBack_x]
    exact this
  · rw [memWriteBack_x]
    exact State.store_wf s s.bigEndianData (s.memAddress ⟨p, u, w, rn, imm8⟩) 4 s.dbg.dtrRx.toNat

theorem exec_outcome (i : Instr) (s : State) : ∃ t, exec i s = .next t ∧ OutcomeOf i s t := by
  cases i with
  | mrsMdcrEl2 t => exact outcome_mrsMdcrEl2 s t
  | msrMdcrEl2 t => exact outcome_msrMdcrEl2 s t
  | mrsMdccsrEl0 t => exact outcome_mrsMdccsrEl0 s t
  | mrsMdccintEl1 t => exact outcome_mrsMdccintEl1 s t
  | msrMdccintEl1 t => exact outcome_msrMdccintEl1 s t
  | mrsOsdtrrxEl1 t => exact outcome_mrsOsdtrrxEl1 s t
  | msrOsdtrrxEl1 t => exact outcome_msrOsdtrrxEl1 s t
  | mrsOsdtrtxEl1 t => exact outcome_mrsOsdtrtxEl1 s t
  | msrOsdtrtxEl1 t => exact outcome_msrOsdtrtxEl1 s t
  | mrsDbgdtrEl0 t => exact outcome_mrsDbgdtrEl0 s t
  | msrDbgdtrEl0 t => exact outcome_msrDbgdtrEl0 s t
  | mrsDbgdtrrxEl0 t => exact outcome_mrsDbgdtrrxEl0 s t
  | msrDbgdtrtxEl0 t => exact outcome_msrDbgdtrtxEl0 s t
  | mrsMdscrEl1 t => exact outcome_mrsMdscrEl1 s t
  | msrMdscrEl1 t => exact outcome_msrMdscrEl1 s t
  | mrsOseccrEl1 t => exact outcome_mrsOseccrEl1 s t
  | msrOseccrEl1 t => exact outcome_msrOseccrEl1 s t
  | mrsDbgbvrEl1 n t => exact outcome_mrsDbgbvrEl1 s n t
  | msrDbgbvrEl1 n t => exact outcome_msrDbgbvrEl1 s n t
  | mrsDbgbcrEl1 n t => exact outcome_mrsDbgbcrEl1 s n t
  | msrDbgbcrEl1 n t => exact outcome_msrDbgbcrEl1 s n t
  | mrsDbgwvrEl1 n t => exact outcome_mrsDbgwvrEl1 s n t
  | msrDbgwvrEl1 n t => exact outcome_msrDbgwvrEl1 s n t
  | mrsDbgwcrEl1 n t => exact outcome_mrsDbgwcrEl1 s n t
  | msrDbgwcrEl1 n t => exact outcome_msrDbgwcrEl1 s n t
  | mrsDbgclaimsetEl1 t => exact outcome_mrsDbgclaimsetEl1 s t
  | msrDbgclaimsetEl1 t => exact outcome_msrDbgclaimsetEl1 s t
  | mrsDbgclaimclrEl1 t => exact outcome_mrsDbgclaimclrEl1 s t
  | msrDbgclaimclrEl1 t => exact outcome_msrDbgclaimclrEl1 s t
  | mrsDbgauthstatusEl1 t => exact outcome_mrsDbgauthstatusEl1 s t
  | mrsMdrarEl1 t => exact outcome_mrsMdrarEl1 s t
  | msrOslarEl1 t => exact outcome_msrOslarEl1 s t
  | mrsOslsrEl1 t => exact outcome_mrsOslsrEl1 s t
  | mrsOsdlrEl1 t => exact outcome_mrsOsdlrEl1 s t
  | msrOsdlrEl1 t => exact outcome_msrOsdlrEl1 s t
  | mrsDbgprcrEl1 t => exact outcome_mrsDbgprcrEl1 s t
  | msrDbgprcrEl1 t => exact outcome_msrDbgprcrEl1 s t
  | mrsPmcrEl0 t => exact outcome_mrsPmcrEl0 s t
  | msrPmcrEl0 t => exact outcome_msrPmcrEl0 s t
  | mrsPmcntensetEl0 t => exact outcome_mrsPmcntensetEl0 s t
  | msrPmcntensetEl0 t => exact outcome_msrPmcntensetEl0 s t
  | mrsPmcntenclrEl0 t => exact outcome_mrsPmcntenclrEl0 s t
  | msrPmcntenclrEl0 t => exact outcome_msrPmcntenclrEl0 s t
  | mrsPmovsclrEl0 t => exact outcome_mrsPmovsclrEl0 s t
  | msrPmovsclrEl0 t => exact outcome_msrPmovsclrEl0 s t
  | msrPmswincEl0 t => exact outcome_msrPmswincEl0 s t
  | mrsPmselrEl0 t => exact outcome_mrsPmselrEl0 s t
  | msrPmselrEl0 t => exact outcome_msrPmselrEl0 s t
  | mrsPmceid0El0 t => exact outcome_mrsPmceid0El0 s t
  | mrsPmceid1El0 t => exact outcome_mrsPmceid1El0 s t
  | mrsPmccntrEl0 t => exact outcome_mrsPmccntrEl0 s t
  | msrPmccntrEl0 t => exact outcome_msrPmccntrEl0 s t
  | mrsPmxevtyperEl0 t => exact outcome_mrsPmxevtyperEl0 s t
  | msrPmxevtyperEl0 t => exact outcome_msrPmxevtyperEl0 s t
  | mrsPmxevcntrEl0 t => exact outcome_mrsPmxevcntrEl0 s t
  | msrPmxevcntrEl0 t => exact outcome_msrPmxevcntrEl0 s t
  | mrsPmuserenrEl0 t => exact outcome_mrsPmuserenrEl0 s t
  | msrPmuserenrEl0 t => exact outcome_msrPmuserenrEl0 s t
  | mrsPmovssetEl0 t => exact outcome_mrsPmovssetEl0 s t
  | msrPmovssetEl0 t => exact outcome_msrPmovssetEl0 s t
  | mrsPmintensetEl1 t => exact outcome_mrsPmintensetEl1 s t
  | msrPmintensetEl1 t => exact outcome_msrPmintensetEl1 s t
  | mrsPmintenclrEl1 t => exact outcome_mrsPmintenclrEl1 s t
  | msrPmintenclrEl1 t => exact outcome_msrPmintenclrEl1 s t
  | mrsPmmirEl1 t => exact outcome_mrsPmmirEl1 s t
  | mrsPmccfiltrEl0 t => exact outcome_mrsPmccfiltrEl0 s t
  | msrPmccfiltrEl0 t => exact outcome_msrPmccfiltrEl0 s t
  | mrsPmevcntrEl0 n t => exact outcome_mrsPmevcntrEl0 s n t
  | msrPmevcntrEl0 n t => exact outcome_msrPmevcntrEl0 s n t
  | mrsPmevtyperEl0 n t => exact outcome_mrsPmevtyperEl0 s n t
  | msrPmevtyperEl0 n t => exact outcome_msrPmevtyperEl0 s n t
  | mrsPmscrEl1 t => exact outcome_mrsPmscrEl1 s t
  | msrPmscrEl1 t => exact outcome_msrPmscrEl1 s t
  | mrsPmsicrEl1 t => exact outcome_mrsPmsicrEl1 s t
  | msrPmsicrEl1 t => exact outcome_msrPmsicrEl1 s t
  | mrsPmsirrEl1 t => exact outcome_mrsPmsirrEl1 s t
  | msrPmsirrEl1 t => exact outcome_msrPmsirrEl1 s t
  | mrsPmsfcrEl1 t => exact outcome_mrsPmsfcrEl1 s t
  | msrPmsfcrEl1 t => exact outcome_msrPmsfcrEl1 s t
  | mrsPmsevfrEl1 t => exact outcome_mrsPmsevfrEl1 s t
  | msrPmsevfrEl1 t => exact outcome_msrPmsevfrEl1 s t
  | mrsPmslatfrEl1 t => exact outcome_mrsPmslatfrEl1 s t
  | msrPmslatfrEl1 t => exact outcome_msrPmslatfrEl1 s t
  | mrsPmsidrEl1 t => exact outcome_mrsPmsidrEl1 s t
  | mrsPmblimitrEl1 t => exact outcome_mrsPmblimitrEl1 s t
  | msrPmblimitrEl1 t => exact outcome_msrPmblimitrEl1 s t
  | mrsPmbptrEl1 t => exact outcome_mrsPmbptrEl1 s t
  | msrPmbptrEl1 t => exact outcome_msrPmbptrEl1 s t
  | mrsPmbsrEl1 t => exact outcome_mrsPmbsrEl1 s t
  | msrPmbsrEl1 t => exact outcome_msrPmbsrEl1 s t
  | mrsPmbidrEl1 t => exact outcome_mrsPmbidrEl1 s t
  | mrsTrfcrEl1 t => exact outcome_mrsTrfcrEl1 s t
  | msrTrfcrEl1 t => exact outcome_msrTrfcrEl1 s t
  | mrcHdcr c t => exact outcome_mrcHdcr s c t
  | mcrHdcr c t => exact outcome_mcrHdcr s c t
  | mrcDbgdidr c t => exact outcome_mrcDbgdidr s c t
  | mrcDbgdscrint c t => exact outcome_mrcDbgdscrint s c t
  | mrcDbgdtrrxint c t => exact outcome_mrcDbgdtrrxint s c t
  | mcrDbgdtrtxint c t => exact outcome_mcrDbgdtrtxint s c t
  | mrcDbgdccint c t => exact outcome_mrcDbgdccint s c t
  | mcrDbgdccint c t => exact outcome_mcrDbgdccint s c t
  | mrcDbgdtrrxext c t => exact outcome_mrcDbgdtrrxext s c t
  | mcrDbgdtrrxext c t => exact outcome_mcrDbgdtrrxext s c t
  | mrcDbgdtrtxext c t => exact outcome_mrcDbgdtrtxext s c t
  | mcrDbgdtrtxext c t => exact outcome_mcrDbgdtrtxext s c t
  | mrcDbgdscrext c t => exact outcome_mrcDbgdscrext s c t
  | mcrDbgdscrext c t => exact outcome_mcrDbgdscrext s c t
  | mrcDbgwfar c t => exact outcome_mrcDbgwfar s c t
  | mcrDbgwfar c t => exact outcome_mcrDbgwfar s c t
  | mrcDbgvcr c t => exact outcome_mrcDbgvcr s c t
  | mcrDbgvcr c t => exact outcome_mcrDbgvcr s c t
  | mrcDbgoseccr c t => exact outcome_mrcDbgoseccr s c t
  | mcrDbgoseccr c t => exact outcome_mcrDbgoseccr s c t
  | mrcDbgbvr c n t => exact outcome_mrcDbgbvr s c n t
  | mcrDbgbvr c n t => exact outcome_mcrDbgbvr s c n t
  | mrcDbgbcr c n t => exact outcome_mrcDbgbcr s c n t
  | mcrDbgbcr c n t => exact outcome_mcrDbgbcr s c n t
  | mrcDbgwvr c n t => exact outcome_mrcDbgwvr s c n t
  | mcrDbgwvr c n t => exact outcome_mcrDbgwvr s c n t
  | mrcDbgwcr c n t => exact outcome_mrcDbgwcr s c n t
  | mcrDbgwcr c n t => exact outcome_mcrDbgwcr s c n t
  | mrcDbgbxvr c n t => exact outcome_mrcDbgbxvr s c n t
  | mcrDbgbxvr c n t => exact outcome_mcrDbgbxvr s c n t
  | mrcDbgclaimset c t => exact outcome_mrcDbgclaimset s c t
  | mcrDbgclaimset c t => exact outcome_mcrDbgclaimset s c t
  | mrcDbgclaimclr c t => exact outcome_mrcDbgclaimclr s c t
  | mcrDbgclaimclr c t => exact outcome_mcrDbgclaimclr s c t
  | mrcDbgauthstatus c t => exact outcome_mrcDbgauthstatus s c t
  | mrcDbgdevid c t => exact outcome_mrcDbgdevid s c t
  | mrcDbgdevid1 c t => exact outcome_mrcDbgdevid1 s c t
  | mrcDbgdevid2 c t => exact outcome_mrcDbgdevid2 s c t
  | mrcDbgdrar c t => exact outcome_mrcDbgdrar s c t
  | mrcDbgdsar c t => exact outcome_mrcDbgdsar s c t
  | mcrDbgoslar c t => exact outcome_mcrDbgoslar s c t
  | mrcDbgoslsr c t => exact outcome_mrcDbgoslsr s c t
  | mrcDbgosdlr c t => exact outcome_mrcDbgosdlr s c t
  | mcrDbgosdlr c t => exact outcome_mcrDbgosdlr s c t
  | mrcDbgprcr c t => exact outcome_mrcDbgprcr s c t
  | mcrDbgprcr c t => exact outcome_mcrDbgprcr s c t
  | mrcTrfcr c t => exact outcome_mrcTrfcr s c t
  | mcrTrfcr c t => exact outcome_mcrTrfcr s c t
  | mrcPmcr c t => exact outcome_mrcPmcr s c t
  | mcrPmcr c t => exact outcome_mcrPmcr s c t
  | mrcPmcntenset c t => exact outcome_mrcPmcntenset s c t
  | mcrPmcntenset c t => exact outcome_mcrPmcntenset s c t
  | mrcPmcntenclr c t => exact outcome_mrcPmcntenclr s c t
  | mcrPmcntenclr c t => exact outcome_mcrPmcntenclr s c t
  | mrcPmovsr c t => exact outcome_mrcPmovsr s c t
  | mcrPmovsr c t => exact outcome_mcrPmovsr s c t
  | mcrPmswinc c t => exact outcome_mcrPmswinc s c t
  | mrcPmselr c t => exact outcome_mrcPmselr s c t
  | mcrPmselr c t => exact outcome_mcrPmselr s c t
  | mrcPmceid0 c t => exact outcome_mrcPmceid0 s c t
  | mrcPmceid1 c t => exact outcome_mrcPmceid1 s c t
  | mrcPmceid2 c t => exact outcome_mrcPmceid2 s c t
  | mrcPmceid3 c t => exact outcome_mrcPmceid3 s c t
  | mrcPmccntr c t => exact outcome_mrcPmccntr s c t
  | mcrPmccntr c t => exact outcome_mcrPmccntr s c t
  | mrcPmxevtyper c t => exact outcome_mrcPmxevtyper s c t
  | mcrPmxevtyper c t => exact outcome_mcrPmxevtyper s c t
  | mrcPmxevcntr c t => exact outcome_mrcPmxevcntr s c t
  | mcrPmxevcntr c t => exact outcome_mcrPmxevcntr s c t
  | mrcPmuserenr c t => exact outcome_mrcPmuserenr s c t
  | mcrPmuserenr c t => exact outcome_mcrPmuserenr s c t
  | mrcPmintenset c t => exact outcome_mrcPmintenset s c t
  | mcrPmintenset c t => exact outcome_mcrPmintenset s c t
  | mrcPmintenclr c t => exact outcome_mrcPmintenclr s c t
  | mcrPmintenclr c t => exact outcome_mcrPmintenclr s c t
  | mrcPmovsset c t => exact outcome_mrcPmovsset s c t
  | mcrPmovsset c t => exact outcome_mcrPmovsset s c t
  | mrcPmmir c t => exact outcome_mrcPmmir s c t
  | mrcPmccfiltr c t => exact outcome_mrcPmccfiltr s c t
  | mcrPmccfiltr c t => exact outcome_mcrPmccfiltr s c t
  | mrcPmevcntr c n t => exact outcome_mrcPmevcntr s c n t
  | mcrPmevcntr c n t => exact outcome_mcrPmevcntr s c n t
  | mrcPmevtyper c n t => exact outcome_mrcPmevtyper s c n t
  | mcrPmevtyper c n t => exact outcome_mcrPmevtyper s c n t
  | mrrcDbgdrar c t t2 => exact outcome_mrrcDbgdrar s c t t2
  | mrrcDbgdsar c t t2 => exact outcome_mrrcDbgdsar s c t t2
  | mrrcPmccntr c t t2 => exact outcome_mrrcPmccntr s c t t2
  | mcrrPmccntr c t t2 => exact outcome_mcrrPmccntr s c t t2
  | ldcDbgdtrtxint c p u w rn imm8 => exact outcome_ldcDbgdtrtxint s c p u w rn imm8
  | stcDbgdtrrxint c p u w rn imm8 => exact outcome_stcDbgdtrrxint s c p u w rn imm8

end Sys2Proof.Machine
end

