-- ==== Sys2Proof/Laws/PerInstr.lean ====
section
/-! SUPPORT. Laws per instruction. The family Encoding: the tables read back the fields of every well-formed
instruction. -/

namespace Sys2Proof.Laws

/-- The fields of the instruction decode to it (30_encoding.md R71). -/
def Encoding.Statement (i : Instr) : Prop := i.wellFormed = true → ∀ w, i.form.decode w = .instr i

/-- A property of every 4-bit number, one value at a time. -/
theorem forall_bitvec4 {P : BitVec 4 → Prop} (h : ∀ k : Fin 16, P (BitVec.ofFin k)) (n : BitVec 4) : P n := h n.toFin

/-- A property of every 5-bit number, one value at a time. -/
theorem forall_bitvec5 {P : BitVec 5 → Prop} (h : ∀ k : Fin 32, P (BitVec.ofFin k)) (n : BitVec 5) : P n := h n.toFin

theorem Encoding.mrsMdcrEl2 (t : XReg) : Encoding.Statement (.mrsMdcrEl2 t) := fun _ _ => rfl
theorem Encoding.msrMdcrEl2 (t : XReg) : Encoding.Statement (.msrMdcrEl2 t) := fun _ _ => rfl
theorem Encoding.mrsMdccsrEl0 (t : XReg) : Encoding.Statement (.mrsMdccsrEl0 t) := fun _ _ => rfl
theorem Encoding.mrsMdccintEl1 (t : XReg) : Encoding.Statement (.mrsMdccintEl1 t) := fun _ _ => rfl
theorem Encoding.msrMdccintEl1 (t : XReg) : Encoding.Statement (.msrMdccintEl1 t) := fun _ _ => rfl
theorem Encoding.mrsOsdtrrxEl1 (t : XReg) : Encoding.Statement (.mrsOsdtrrxEl1 t) := fun _ _ => rfl
theorem Encoding.msrOsdtrrxEl1 (t : XReg) : Encoding.Statement (.msrOsdtrrxEl1 t) := fun _ _ => rfl
theorem Encoding.mrsOsdtrtxEl1 (t : XReg) : Encoding.Statement (.mrsOsdtrtxEl1 t) := fun _ _ => rfl
theorem Encoding.msrOsdtrtxEl1 (t : XReg) : Encoding.Statement (.msrOsdtrtxEl1 t) := fun _ _ => rfl
theorem Encoding.mrsDbgdtrEl0 (t : XReg) : Encoding.Statement (.mrsDbgdtrEl0 t) := fun _ _ => rfl
theorem Encoding.msrDbgdtrEl0 (t : XReg) : Encoding.Statement (.msrDbgdtrEl0 t) := fun _ _ => rfl
theorem Encoding.mrsDbgdtrrxEl0 (t : XReg) : Encoding.Statement (.mrsDbgdtrrxEl0 t) := fun _ _ => rfl
theorem Encoding.msrDbgdtrtxEl0 (t : XReg) : Encoding.Statement (.msrDbgdtrtxEl0 t) := fun _ _ => rfl
theorem Encoding.mrsMdscrEl1 (t : XReg) : Encoding.Statement (.mrsMdscrEl1 t) := fun _ _ => rfl
theorem Encoding.msrMdscrEl1 (t : XReg) : Encoding.Statement (.msrMdscrEl1 t) := fun _ _ => rfl
theorem Encoding.mrsOseccrEl1 (t : XReg) : Encoding.Statement (.mrsOseccrEl1 t) := fun _ _ => rfl
theorem Encoding.msrOseccrEl1 (t : XReg) : Encoding.Statement (.msrOseccrEl1 t) := fun _ _ => rfl
theorem Encoding.mrsDbgbvrEl1 (n : BitVec 4) (t : XReg) : Encoding.Statement (.mrsDbgbvrEl1 n t) :=
  forall_bitvec4 (P := fun n => Encoding.Statement (.mrsDbgbvrEl1 n t)) (fun k _ _ => by fin_cases k <;> rfl) n
theorem Encoding.msrDbgbvrEl1 (n : BitVec 4) (t : XReg) : Encoding.Statement (.msrDbgbvrEl1 n t) :=
  forall_bitvec4 (P := fun n => Encoding.Statement (.msrDbgbvrEl1 n t)) (fun k _ _ => by fin_cases k <;> rfl) n
theorem Encoding.mrsDbgbcrEl1 (n : BitVec 4) (t : XReg) : Encoding.Statement (.mrsDbgbcrEl1 n t) :=
  forall_bitvec4 (P := fun n => Encoding.Statement (.mrsDbgbcrEl1 n t)) (fun k _ _ => by fin_cases k <;> rfl) n
theorem Encoding.msrDbgbcrEl1 (n : BitVec 4) (t : XReg) : Encoding.Statement (.msrDbgbcrEl1 n t) :=
  forall_bitvec4 (P := fun n => Encoding.Statement (.msrDbgbcrEl1 n t)) (fun k _ _ => by fin_cases k <;> rfl) n
theorem Encoding.mrsDbgwvrEl1 (n : BitVec 4) (t : XReg) : Encoding.Statement (.mrsDbgwvrEl1 n t) :=
  forall_bitvec4 (P := fun n => Encoding.Statement (.mrsDbgwvrEl1 n t)) (fun k _ _ => by fin_cases k <;> rfl) n
theorem Encoding.msrDbgwvrEl1 (n : BitVec 4) (t : XReg) : Encoding.Statement (.msrDbgwvrEl1 n t) :=
  forall_bitvec4 (P := fun n => Encoding.Statement (.msrDbgwvrEl1 n t)) (fun k _ _ => by fin_cases k <;> rfl) n
theorem Encoding.mrsDbgwcrEl1 (n : BitVec 4) (t : XReg) : Encoding.Statement (.mrsDbgwcrEl1 n t) :=
  forall_bitvec4 (P := fun n => Encoding.Statement (.mrsDbgwcrEl1 n t)) (fun k _ _ => by fin_cases k <;> rfl) n
theorem Encoding.msrDbgwcrEl1 (n : BitVec 4) (t : XReg) : Encoding.Statement (.msrDbgwcrEl1 n t) :=
  forall_bitvec4 (P := fun n => Encoding.Statement (.msrDbgwcrEl1 n t)) (fun k _ _ => by fin_cases k <;> rfl) n
theorem Encoding.mrsDbgclaimsetEl1 (t : XReg) : Encoding.Statement (.mrsDbgclaimsetEl1 t) := fun _ _ => rfl
theorem Encoding.msrDbgclaimsetEl1 (t : XReg) : Encoding.Statement (.msrDbgclaimsetEl1 t) := fun _ _ => rfl
theorem Encoding.mrsDbgclaimclrEl1 (t : XReg) : Encoding.Statement (.mrsDbgclaimclrEl1 t) := fun _ _ => rfl
theorem Encoding.msrDbgclaimclrEl1 (t : XReg) : Encoding.Statement (.msrDbgclaimclrEl1 t) := fun _ _ => rfl
theorem Encoding.mrsDbgauthstatusEl1 (t : XReg) : Encoding.Statement (.mrsDbgauthstatusEl1 t) := fun _ _ => rfl
theorem Encoding.mrsMdrarEl1 (t : XReg) : Encoding.Statement (.mrsMdrarEl1 t) := fun _ _ => rfl
theorem Encoding.msrOslarEl1 (t : XReg) : Encoding.Statement (.msrOslarEl1 t) := fun _ _ => rfl
theorem Encoding.mrsOslsrEl1 (t : XReg) : Encoding.Statement (.mrsOslsrEl1 t) := fun _ _ => rfl
theorem Encoding.mrsOsdlrEl1 (t : XReg) : Encoding.Statement (.mrsOsdlrEl1 t) := fun _ _ => rfl
theorem Encoding.msrOsdlrEl1 (t : XReg) : Encoding.Statement (.msrOsdlrEl1 t) := fun _ _ => rfl
theorem Encoding.mrsDbgprcrEl1 (t : XReg) : Encoding.Statement (.mrsDbgprcrEl1 t) := fun _ _ => rfl
theorem Encoding.msrDbgprcrEl1 (t : XReg) : Encoding.Statement (.msrDbgprcrEl1 t) := fun _ _ => rfl
theorem Encoding.mrsPmcrEl0 (t : XReg) : Encoding.Statement (.mrsPmcrEl0 t) := fun _ _ => rfl
theorem Encoding.msrPmcrEl0 (t : XReg) : Encoding.Statement (.msrPmcrEl0 t) := fun _ _ => rfl
theorem Encoding.mrsPmcntensetEl0 (t : XReg) : Encoding.Statement (.mrsPmcntensetEl0 t) := fun _ _ => rfl
theorem Encoding.msrPmcntensetEl0 (t : XReg) : Encoding.Statement (.msrPmcntensetEl0 t) := fun _ _ => rfl
theorem Encoding.mrsPmcntenclrEl0 (t : XReg) : Encoding.Statement (.mrsPmcntenclrEl0 t) := fun _ _ => rfl
theorem Encoding.msrPmcntenclrEl0 (t : XReg) : Encoding.Statement (.msrPmcntenclrEl0 t) := fun _ _ => rfl
theorem Encoding.mrsPmovsclrEl0 (t : XReg) : Encoding.Statement (.mrsPmovsclrEl0 t) := fun _ _ => rfl
theorem Encoding.msrPmovsclrEl0 (t : XReg) : Encoding.Statement (.msrPmovsclrEl0 t) := fun _ _ => rfl
theorem Encoding.msrPmswincEl0 (t : XReg) : Encoding.Statement (.msrPmswincEl0 t) := fun _ _ => rfl
theorem Encoding.mrsPmselrEl0 (t : XReg) : Encoding.Statement (.mrsPmselrEl0 t) := fun _ _ => rfl
theorem Encoding.msrPmselrEl0 (t : XReg) : Encoding.Statement (.msrPmselrEl0 t) := fun _ _ => rfl
theorem Encoding.mrsPmceid0El0 (t : XReg) : Encoding.Statement (.mrsPmceid0El0 t) := fun _ _ => rfl
theorem Encoding.mrsPmceid1El0 (t : XReg) : Encoding.Statement (.mrsPmceid1El0 t) := fun _ _ => rfl
theorem Encoding.mrsPmccntrEl0 (t : XReg) : Encoding.Statement (.mrsPmccntrEl0 t) := fun _ _ => rfl
theorem Encoding.msrPmccntrEl0 (t : XReg) : Encoding.Statement (.msrPmccntrEl0 t) := fun _ _ => rfl
theorem Encoding.mrsPmxevtyperEl0 (t : XReg) : Encoding.Statement (.mrsPmxevtyperEl0 t) := fun _ _ => rfl
theorem Encoding.msrPmxevtyperEl0 (t : XReg) : Encoding.Statement (.msrPmxevtyperEl0 t) := fun _ _ => rfl
theorem Encoding.mrsPmxevcntrEl0 (t : XReg) : Encoding.Statement (.mrsPmxevcntrEl0 t) := fun _ _ => rfl
theorem Encoding.msrPmxevcntrEl0 (t : XReg) : Encoding.Statement (.msrPmxevcntrEl0 t) := fun _ _ => rfl
theorem Encoding.mrsPmuserenrEl0 (t : XReg) : Encoding.Statement (.mrsPmuserenrEl0 t) := fun _ _ => rfl
theorem Encoding.msrPmuserenrEl0 (t : XReg) : Encoding.Statement (.msrPmuserenrEl0 t) := fun _ _ => rfl
theorem Encoding.mrsPmovssetEl0 (t : XReg) : Encoding.Statement (.mrsPmovssetEl0 t) := fun _ _ => rfl
theorem Encoding.msrPmovssetEl0 (t : XReg) : Encoding.Statement (.msrPmovssetEl0 t) := fun _ _ => rfl
theorem Encoding.mrsPmintensetEl1 (t : XReg) : Encoding.Statement (.mrsPmintensetEl1 t) := fun _ _ => rfl
theorem Encoding.msrPmintensetEl1 (t : XReg) : Encoding.Statement (.msrPmintensetEl1 t) := fun _ _ => rfl
theorem Encoding.mrsPmintenclrEl1 (t : XReg) : Encoding.Statement (.mrsPmintenclrEl1 t) := fun _ _ => rfl
theorem Encoding.msrPmintenclrEl1 (t : XReg) : Encoding.Statement (.msrPmintenclrEl1 t) := fun _ _ => rfl
theorem Encoding.mrsPmmirEl1 (t : XReg) : Encoding.Statement (.mrsPmmirEl1 t) := fun _ _ => rfl
theorem Encoding.mrsPmccfiltrEl0 (t : XReg) : Encoding.Statement (.mrsPmccfiltrEl0 t) := fun _ _ => rfl
theorem Encoding.msrPmccfiltrEl0 (t : XReg) : Encoding.Statement (.msrPmccfiltrEl0 t) := fun _ _ => rfl
theorem Encoding.mrsPmevcntrEl0 (n : BitVec 5) (t : XReg) : Encoding.Statement (.mrsPmevcntrEl0 n t) :=
  forall_bitvec5 (P := fun n => Encoding.Statement (.mrsPmevcntrEl0 n t))
    (fun k h _ => by fin_cases k <;> first | rfl | exact (Bool.false_ne_true h).elim) n
theorem Encoding.msrPmevcntrEl0 (n : BitVec 5) (t : XReg) : Encoding.Statement (.msrPmevcntrEl0 n t) :=
  forall_bitvec5 (P := fun n => Encoding.Statement (.msrPmevcntrEl0 n t))
    (fun k h _ => by fin_cases k <;> first | rfl | exact (Bool.false_ne_true h).elim) n
theorem Encoding.mrsPmevtyperEl0 (n : BitVec 5) (t : XReg) : Encoding.Statement (.mrsPmevtyperEl0 n t) :=
  forall_bitvec5 (P := fun n => Encoding.Statement (.mrsPmevtyperEl0 n t))
    (fun k h _ => by fin_cases k <;> first | rfl | exact (Bool.false_ne_true h).elim) n
theorem Encoding.msrPmevtyperEl0 (n : BitVec 5) (t : XReg) : Encoding.Statement (.msrPmevtyperEl0 n t) :=
  forall_bitvec5 (P := fun n => Encoding.Statement (.msrPmevtyperEl0 n t))
    (fun k h _ => by fin_cases k <;> first | rfl | exact (Bool.false_ne_true h).elim) n
theorem Encoding.mrsPmscrEl1 (t : XReg) : Encoding.Statement (.mrsPmscrEl1 t) := fun _ _ => rfl
theorem Encoding.msrPmscrEl1 (t : XReg) : Encoding.Statement (.msrPmscrEl1 t) := fun _ _ => rfl
theorem Encoding.mrsPmsicrEl1 (t : XReg) : Encoding.Statement (.mrsPmsicrEl1 t) := fun _ _ => rfl
theorem Encoding.msrPmsicrEl1 (t : XReg) : Encoding.Statement (.msrPmsicrEl1 t) := fun _ _ => rfl
theorem Encoding.mrsPmsirrEl1 (t : XReg) : Encoding.Statement (.mrsPmsirrEl1 t) := fun _ _ => rfl
theorem Encoding.msrPmsirrEl1 (t : XReg) : Encoding.Statement (.msrPmsirrEl1 t) := fun _ _ => rfl
theorem Encoding.mrsPmsfcrEl1 (t : XReg) : Encoding.Statement (.mrsPmsfcrEl1 t) := fun _ _ => rfl
theorem Encoding.msrPmsfcrEl1 (t : XReg) : Encoding.Statement (.msrPmsfcrEl1 t) := fun _ _ => rfl
theorem Encoding.mrsPmsevfrEl1 (t : XReg) : Encoding.Statement (.mrsPmsevfrEl1 t) := fun _ _ => rfl
theorem Encoding.msrPmsevfrEl1 (t : XReg) : Encoding.Statement (.msrPmsevfrEl1 t) := fun _ _ => rfl
theorem Encoding.mrsPmslatfrEl1 (t : XReg) : Encoding.Statement (.mrsPmslatfrEl1 t) := fun _ _ => rfl
theorem Encoding.msrPmslatfrEl1 (t : XReg) : Encoding.Statement (.msrPmslatfrEl1 t) := fun _ _ => rfl
theorem Encoding.mrsPmsidrEl1 (t : XReg) : Encoding.Statement (.mrsPmsidrEl1 t) := fun _ _ => rfl
theorem Encoding.mrsPmblimitrEl1 (t : XReg) : Encoding.Statement (.mrsPmblimitrEl1 t) := fun _ _ => rfl
theorem Encoding.msrPmblimitrEl1 (t : XReg) : Encoding.Statement (.msrPmblimitrEl1 t) := fun _ _ => rfl
theorem Encoding.mrsPmbptrEl1 (t : XReg) : Encoding.Statement (.mrsPmbptrEl1 t) := fun _ _ => rfl
theorem Encoding.msrPmbptrEl1 (t : XReg) : Encoding.Statement (.msrPmbptrEl1 t) := fun _ _ => rfl
theorem Encoding.mrsPmbsrEl1 (t : XReg) : Encoding.Statement (.mrsPmbsrEl1 t) := fun _ _ => rfl
theorem Encoding.msrPmbsrEl1 (t : XReg) : Encoding.Statement (.msrPmbsrEl1 t) := fun _ _ => rfl
theorem Encoding.mrsPmbidrEl1 (t : XReg) : Encoding.Statement (.mrsPmbidrEl1 t) := fun _ _ => rfl
theorem Encoding.mrsTrfcrEl1 (t : XReg) : Encoding.Statement (.mrsTrfcrEl1 t) := fun _ _ => rfl
theorem Encoding.msrTrfcrEl1 (t : XReg) : Encoding.Statement (.msrTrfcrEl1 t) := fun _ _ => rfl
theorem Encoding.mrcHdcr (cond : Cond) (t : RReg) : Encoding.Statement (.mrcHdcr cond t) := fun _ _ => rfl
theorem Encoding.mcrHdcr (cond : Cond) (t : RReg) : Encoding.Statement (.mcrHdcr cond t) := fun _ _ => rfl
theorem Encoding.mrcDbgdidr (cond : Cond) (t : RReg) : Encoding.Statement (.mrcDbgdidr cond t) := fun _ _ => rfl
theorem Encoding.mrcDbgdscrint (cond : Cond) (t : RReg) : Encoding.Statement (.mrcDbgdscrint cond t) := fun _ _ => rfl
theorem Encoding.mrcDbgdtrrxint (cond : Cond) (t : RReg) : Encoding.Statement (.mrcDbgdtrrxint cond t) := fun _ _ => rfl
theorem Encoding.mcrDbgdtrtxint (cond : Cond) (t : RReg) : Encoding.Statement (.mcrDbgdtrtxint cond t) := fun _ _ => rfl
theorem Encoding.mrcDbgdccint (cond : Cond) (t : RReg) : Encoding.Statement (.mrcDbgdccint cond t) := fun _ _ => rfl
theorem Encoding.mcrDbgdccint (cond : Cond) (t : RReg) : Encoding.Statement (.mcrDbgdccint cond t) := fun _ _ => rfl
theorem Encoding.mrcDbgdtrrxext (cond : Cond) (t : RReg) : Encoding.Statement (.mrcDbgdtrrxext cond t) := fun _ _ => rfl
theorem Encoding.mcrDbgdtrrxext (cond : Cond) (t : RReg) : Encoding.Statement (.mcrDbgdtrrxext cond t) := fun _ _ => rfl
theorem Encoding.mrcDbgdtrtxext (cond : Cond) (t : RReg) : Encoding.Statement (.mrcDbgdtrtxext cond t) := fun _ _ => rfl
theorem Encoding.mcrDbgdtrtxext (cond : Cond) (t : RReg) : Encoding.Statement (.mcrDbgdtrtxext cond t) := fun _ _ => rfl
theorem Encoding.mrcDbgdscrext (cond : Cond) (t : RReg) : Encoding.Statement (.mrcDbgdscrext cond t) := fun _ _ => rfl
theorem Encoding.mcrDbgdscrext (cond : Cond) (t : RReg) : Encoding.Statement (.mcrDbgdscrext cond t) := fun _ _ => rfl
theorem Encoding.mrcDbgwfar (cond : Cond) (t : RReg) : Encoding.Statement (.mrcDbgwfar cond t) := fun _ _ => rfl
theorem Encoding.mcrDbgwfar (cond : Cond) (t : RReg) : Encoding.Statement (.mcrDbgwfar cond t) := fun _ _ => rfl
theorem Encoding.mrcDbgvcr (cond : Cond) (t : RReg) : Encoding.Statement (.mrcDbgvcr cond t) := fun _ _ => rfl
theorem Encoding.mcrDbgvcr (cond : Cond) (t : RReg) : Encoding.Statement (.mcrDbgvcr cond t) := fun _ _ => rfl
theorem Encoding.mrcDbgoseccr (cond : Cond) (t : RReg) : Encoding.Statement (.mrcDbgoseccr cond t) := fun _ _ => rfl
theorem Encoding.mcrDbgoseccr (cond : Cond) (t : RReg) : Encoding.Statement (.mcrDbgoseccr cond t) := fun _ _ => rfl
theorem Encoding.mrcDbgbvr (cond : Cond) (n : BitVec 4) (t : RReg) : Encoding.Statement (.mrcDbgbvr cond n t) :=
  forall_bitvec4 (P := fun n => Encoding.Statement (.mrcDbgbvr cond n t)) (fun k _ _ => by fin_cases k <;> rfl) n
theorem Encoding.mcrDbgbvr (cond : Cond) (n : BitVec 4) (t : RReg) : Encoding.Statement (.mcrDbgbvr cond n t) :=
  forall_bitvec4 (P := fun n => Encoding.Statement (.mcrDbgbvr cond n t)) (fun k _ _ => by fin_cases k <;> rfl) n
theorem Encoding.mrcDbgbcr (cond : Cond) (n : BitVec 4) (t : RReg) : Encoding.Statement (.mrcDbgbcr cond n t) :=
  forall_bitvec4 (P := fun n => Encoding.Statement (.mrcDbgbcr cond n t)) (fun k _ _ => by fin_cases k <;> rfl) n
theorem Encoding.mcrDbgbcr (cond : Cond) (n : BitVec 4) (t : RReg) : Encoding.Statement (.mcrDbgbcr cond n t) :=
  forall_bitvec4 (P := fun n => Encoding.Statement (.mcrDbgbcr cond n t)) (fun k _ _ => by fin_cases k <;> rfl) n
theorem Encoding.mrcDbgwvr (cond : Cond) (n : BitVec 4) (t : RReg) : Encoding.Statement (.mrcDbgwvr cond n t) :=
  forall_bitvec4 (P := fun n => Encoding.Statement (.mrcDbgwvr cond n t)) (fun k _ _ => by fin_cases k <;> rfl) n
theorem Encoding.mcrDbgwvr (cond : Cond) (n : BitVec 4) (t : RReg) : Encoding.Statement (.mcrDbgwvr cond n t) :=
  forall_bitvec4 (P := fun n => Encoding.Statement (.mcrDbgwvr cond n t)) (fun k _ _ => by fin_cases k <;> rfl) n
theorem Encoding.mrcDbgwcr (cond : Cond) (n : BitVec 4) (t : RReg) : Encoding.Statement (.mrcDbgwcr cond n t) :=
  forall_bitvec4 (P := fun n => Encoding.Statement (.mrcDbgwcr cond n t)) (fun k _ _ => by fin_cases k <;> rfl) n
theorem Encoding.mcrDbgwcr (cond : Cond) (n : BitVec 4) (t : RReg) : Encoding.Statement (.mcrDbgwcr cond n t) :=
  forall_bitvec4 (P := fun n => Encoding.Statement (.mcrDbgwcr cond n t)) (fun k _ _ => by fin_cases k <;> rfl) n
theorem Encoding.mrcDbgbxvr (cond : Cond) (n : BitVec 4) (t : RReg) : Encoding.Statement (.mrcDbgbxvr cond n t) :=
  forall_bitvec4 (P := fun n => Encoding.Statement (.mrcDbgbxvr cond n t)) (fun k _ _ => by fin_cases k <;> rfl) n
theorem Encoding.mcrDbgbxvr (cond : Cond) (n : BitVec 4) (t : RReg) : Encoding.Statement (.mcrDbgbxvr cond n t) :=
  forall_bitvec4 (P := fun n => Encoding.Statement (.mcrDbgbxvr cond n t)) (fun k _ _ => by fin_cases k <;> rfl) n
theorem Encoding.mrcDbgclaimset (cond : Cond) (t : RReg) : Encoding.Statement (.mrcDbgclaimset cond t) := fun _ _ => rfl
theorem Encoding.mcrDbgclaimset (cond : Cond) (t : RReg) : Encoding.Statement (.mcrDbgclaimset cond t) := fun _ _ => rfl
theorem Encoding.mrcDbgclaimclr (cond : Cond) (t : RReg) : Encoding.Statement (.mrcDbgclaimclr cond t) := fun _ _ => rfl
theorem Encoding.mcrDbgclaimclr (cond : Cond) (t : RReg) : Encoding.Statement (.mcrDbgclaimclr cond t) := fun _ _ => rfl
theorem Encoding.mrcDbgauthstatus (cond : Cond) (t : RReg) : Encoding.Statement (.mrcDbgauthstatus cond t) := fun _ _ => rfl
theorem Encoding.mrcDbgdevid (cond : Cond) (t : RReg) : Encoding.Statement (.mrcDbgdevid cond t) := fun _ _ => rfl
theorem Encoding.mrcDbgdevid1 (cond : Cond) (t : RReg) : Encoding.Statement (.mrcDbgdevid1 cond t) := fun _ _ => rfl
theorem Encoding.mrcDbgdevid2 (cond : Cond) (t : RReg) : Encoding.Statement (.mrcDbgdevid2 cond t) := fun _ _ => rfl
theorem Encoding.mrcDbgdrar (cond : Cond) (t : RReg) : Encoding.Statement (.mrcDbgdrar cond t) := fun _ _ => rfl
theorem Encoding.mrcDbgdsar (cond : Cond) (t : RReg) : Encoding.Statement (.mrcDbgdsar cond t) := fun _ _ => rfl
theorem Encoding.mcrDbgoslar (cond : Cond) (t : RReg) : Encoding.Statement (.mcrDbgoslar cond t) := fun _ _ => rfl
theorem Encoding.mrcDbgoslsr (cond : Cond) (t : RReg) : Encoding.Statement (.mrcDbgoslsr cond t) := fun _ _ => rfl
theorem Encoding.mrcDbgosdlr (cond : Cond) (t : RReg) : Encoding.Statement (.mrcDbgosdlr cond t) := fun _ _ => rfl
theorem Encoding.mcrDbgosdlr (cond : Cond) (t : RReg) : Encoding.Statement (.mcrDbgosdlr cond t) := fun _ _ => rfl
theorem Encoding.mrcDbgprcr (cond : Cond) (t : RReg) : Encoding.Statement (.mrcDbgprcr cond t) := fun _ _ => rfl
theorem Encoding.mcrDbgprcr (cond : Cond) (t : RReg) : Encoding.Statement (.mcrDbgprcr cond t) := fun _ _ => rfl
theorem Encoding.mrcTrfcr (cond : Cond) (t : RReg) : Encoding.Statement (.mrcTrfcr cond t) := fun _ _ => rfl
theorem Encoding.mcrTrfcr (cond : Cond) (t : RReg) : Encoding.Statement (.mcrTrfcr cond t) := fun _ _ => rfl
theorem Encoding.mrcPmcr (cond : Cond) (t : RReg) : Encoding.Statement (.mrcPmcr cond t) := fun _ _ => rfl
theorem Encoding.mcrPmcr (cond : Cond) (t : RReg) : Encoding.Statement (.mcrPmcr cond t) := fun _ _ => rfl
theorem Encoding.mrcPmcntenset (cond : Cond) (t : RReg) : Encoding.Statement (.mrcPmcntenset cond t) := fun _ _ => rfl
theorem Encoding.mcrPmcntenset (cond : Cond) (t : RReg) : Encoding.Statement (.mcrPmcntenset cond t) := fun _ _ => rfl
theorem Encoding.mrcPmcntenclr (cond : Cond) (t : RReg) : Encoding.Statement (.mrcPmcntenclr cond t) := fun _ _ => rfl
theorem Encoding.mcrPmcntenclr (cond : Cond) (t : RReg) : Encoding.Statement (.mcrPmcntenclr cond t) := fun _ _ => rfl
theorem Encoding.mrcPmovsr (cond : Cond) (t : RReg) : Encoding.Statement (.mrcPmovsr cond t) := fun _ _ => rfl
theorem Encoding.mcrPmovsr (cond : Cond) (t : RReg) : Encoding.Statement (.mcrPmovsr cond t) := fun _ _ => rfl
theorem Encoding.mcrPmswinc (cond : Cond) (t : RReg) : Encoding.Statement (.mcrPmswinc cond t) := fun _ _ => rfl
theorem Encoding.mrcPmselr (cond : Cond) (t : RReg) : Encoding.Statement (.mrcPmselr cond t) := fun _ _ => rfl
theorem Encoding.mcrPmselr (cond : Cond) (t : RReg) : Encoding.Statement (.mcrPmselr cond t) := fun _ _ => rfl
theorem Encoding.mrcPmceid0 (cond : Cond) (t : RReg) : Encoding.Statement (.mrcPmceid0 cond t) := fun _ _ => rfl
theorem Encoding.mrcPmceid1 (cond : Cond) (t : RReg) : Encoding.Statement (.mrcPmceid1 cond t) := fun _ _ => rfl
theorem Encoding.mrcPmceid2 (cond : Cond) (t : RReg) : Encoding.Statement (.mrcPmceid2 cond t) := fun _ _ => rfl
theorem Encoding.mrcPmceid3 (cond : Cond) (t : RReg) : Encoding.Statement (.mrcPmceid3 cond t) := fun _ _ => rfl
theorem Encoding.mrcPmccntr (cond : Cond) (t : RReg) : Encoding.Statement (.mrcPmccntr cond t) := fun _ _ => rfl
theorem Encoding.mcrPmccntr (cond : Cond) (t : RReg) : Encoding.Statement (.mcrPmccntr cond t) := fun _ _ => rfl
theorem Encoding.mrcPmxevtyper (cond : Cond) (t : RReg) : Encoding.Statement (.mrcPmxevtyper cond t) := fun _ _ => rfl
theorem Encoding.mcrPmxevtyper (cond : Cond) (t : RReg) : Encoding.Statement (.mcrPmxevtyper cond t) := fun _ _ => rfl
theorem Encoding.mrcPmxevcntr (cond : Cond) (t : RReg) : Encoding.Statement (.mrcPmxevcntr cond t) := fun _ _ => rfl
theorem Encoding.mcrPmxevcntr (cond : Cond) (t : RReg) : Encoding.Statement (.mcrPmxevcntr cond t) := fun _ _ => rfl
theorem Encoding.mrcPmuserenr (cond : Cond) (t : RReg) : Encoding.Statement (.mrcPmuserenr cond t) := fun _ _ => rfl
theorem Encoding.mcrPmuserenr (cond : Cond) (t : RReg) : Encoding.Statement (.mcrPmuserenr cond t) := fun _ _ => rfl
theorem Encoding.mrcPmintenset (cond : Cond) (t : RReg) : Encoding.Statement (.mrcPmintenset cond t) := fun _ _ => rfl
theorem Encoding.mcrPmintenset (cond : Cond) (t : RReg) : Encoding.Statement (.mcrPmintenset cond t) := fun _ _ => rfl
theorem Encoding.mrcPmintenclr (cond : Cond) (t : RReg) : Encoding.Statement (.mrcPmintenclr cond t) := fun _ _ => rfl
theorem Encoding.mcrPmintenclr (cond : Cond) (t : RReg) : Encoding.Statement (.mcrPmintenclr cond t) := fun _ _ => rfl
theorem Encoding.mrcPmovsset (cond : Cond) (t : RReg) : Encoding.Statement (.mrcPmovsset cond t) := fun _ _ => rfl
theorem Encoding.mcrPmovsset (cond : Cond) (t : RReg) : Encoding.Statement (.mcrPmovsset cond t) := fun _ _ => rfl
theorem Encoding.mrcPmmir (cond : Cond) (t : RReg) : Encoding.Statement (.mrcPmmir cond t) := fun _ _ => rfl
theorem Encoding.mrcPmccfiltr (cond : Cond) (t : RReg) : Encoding.Statement (.mrcPmccfiltr cond t) := fun _ _ => rfl
theorem Encoding.mcrPmccfiltr (cond : Cond) (t : RReg) : Encoding.Statement (.mcrPmccfiltr cond t) := fun _ _ => rfl
theorem Encoding.mrcPmevcntr (cond : Cond) (n : BitVec 5) (t : RReg) : Encoding.Statement (.mrcPmevcntr cond n t) :=
  forall_bitvec5 (P := fun n => Encoding.Statement (.mrcPmevcntr cond n t))
    (fun k h _ => by fin_cases k <;> first | rfl | exact (Bool.false_ne_true h).elim) n
theorem Encoding.mcrPmevcntr (cond : Cond) (n : BitVec 5) (t : RReg) : Encoding.Statement (.mcrPmevcntr cond n t) :=
  forall_bitvec5 (P := fun n => Encoding.Statement (.mcrPmevcntr cond n t))
    (fun k h _ => by fin_cases k <;> first | rfl | exact (Bool.false_ne_true h).elim) n
theorem Encoding.mrcPmevtyper (cond : Cond) (n : BitVec 5) (t : RReg) : Encoding.Statement (.mrcPmevtyper cond n t) :=
  forall_bitvec5 (P := fun n => Encoding.Statement (.mrcPmevtyper cond n t))
    (fun k h _ => by fin_cases k <;> first | rfl | exact (Bool.false_ne_true h).elim) n
theorem Encoding.mcrPmevtyper (cond : Cond) (n : BitVec 5) (t : RReg) : Encoding.Statement (.mcrPmevtyper cond n t) :=
  forall_bitvec5 (P := fun n => Encoding.Statement (.mcrPmevtyper cond n t))
    (fun k h _ => by fin_cases k <;> first | rfl | exact (Bool.false_ne_true h).elim) n
theorem Encoding.mrrcDbgdrar (cond : Cond) (t t2 : RReg) : Encoding.Statement (.mrrcDbgdrar cond t t2) := fun _ _ => rfl
theorem Encoding.mrrcDbgdsar (cond : Cond) (t t2 : RReg) : Encoding.Statement (.mrrcDbgdsar cond t t2) := fun _ _ => rfl
theorem Encoding.mrrcPmccntr (cond : Cond) (t t2 : RReg) : Encoding.Statement (.mrrcPmccntr cond t t2) := fun _ _ => rfl
theorem Encoding.mcrrPmccntr (cond : Cond) (t t2 : RReg) : Encoding.Statement (.mcrrPmccntr cond t t2) := fun _ _ => rfl
theorem Encoding.ldcDbgdtrtxint (cond : Cond) (p u w : Bool) (rn : RReg) (imm8 : BitVec 8) : Encoding.Statement (.ldcDbgdtrtxint cond p u w rn imm8) := fun _ _ => rfl
theorem Encoding.stcDbgdtrrxint (cond : Cond) (p u w : Bool) (rn : RReg) (imm8 : BitVec 8) : Encoding.Statement (.stcDbgdtrrxint cond p u w rn imm8) := fun _ _ => rfl

end Sys2Proof.Laws
end

