-- ==== Sys2Proof/Tests/Slice0.lean ====
section
/-! SUPPORT. Tests: the well-formedness smoke test, one word of every instruction decoded, the derived vectors of
95_test_vectors.md that one step can show, and for each obligation a witness that its hypotheses can be met. Expected
values come from the spec (the vector or the rule is named), never from the model. -/

namespace Sys2Proof.Tests

open Sys2Proof Sys2Proof.Machine

/-- The outcome is a next state of which `p` holds. -/
def answers (o : Host.Outcome State Fault Refusal) (p : State → Bool) : Bool :=
  match o with
  | .next t => p t
  | _ => false

/-- A state of configuration `c` at level `el` as 95_test_vectors.md Part 2 sets it up: SP = 1, PMUSERENR_EL0 = 0xF,
Non-secure, VBAR_EL2 = 0x40000800, everything else zero. -/
def place (c : Config) (el : EL) (a32 : Bool) (mdcr : Word) : State :=
  let r := State.resetWith c
  { r with
    pc := 0x80001000
    ps := { PState.reset el a32 with sp := true }
    inp := { r.inp with el1A32 := a32, el2A32 := a32 && decide (el = .el2) }
    ctl := { r.ctl with mdcrEl2 := mdcr, scrEl3 := 1 }
    exc := { r.exc with el2 := { r.exc.el2 with vbar := 0x40000800 } }
    pmu := { r.pmu with pmuserenr := 0xF } }

/-- Configuration K1, AArch64. -/
def k1 (el : EL) (mdcr : Word) : State := place Config.k1 el false mdcr

/-- Configuration K1, the level using AArch32. -/
def k1A32 (el : EL) (mdcr : Word) : State := place Config.k1 el true mdcr

/-- K1 with EL3. -/
def cfgEl3 : Config := { Config.k1 with haveEL3 := true }

/-- K1 with nested virtualization. -/
def cfgNv : Config := { Config.k1 with haveNV := true, haveNV2 := true }

/-- K1 with EL3 and without EL2. -/
def cfgNoEl2 : Config := { Config.k1 with haveEL3 := true, haveEL2 := false }

def withHcr (s : State) (v : Word) : State := { s with ctl := { s.ctl with hcrEl2 := v } }
def withMdcr3 (s : State) (v : Word) : State := { s with ctl := { s.ctl with mdcrEl3 := v } }
def withHstr (s : State) (v : Word) : State := { s with ctl := { s.ctl with hstrEl2 := v } }
def withMdscr (s : State) (v : Word) : State := { s with dbg := { s.dbg with mdscrEl1 := v } }
def withUserenr (s : State) (v : Word) : State := { s with pmu := { s.pmu with pmuserenr := v } }
def withSelr (s : State) (v : Word) : State := { s with pmu := { s.pmu with pmselr := v } }
def withEnables (s : State) (v : Word) : State := { s with pmu := { s.pmu with pmcnten := v } }
def withPmcr (s : State) (v : Word) : State := { s with pmu := { s.pmu with pmcr := v } }
def withEvent (s : State) (e : Event) : State := { s with events := [e] }

/-- ARMv8.6-MTPMU implemented, and PMEVTYPER<n>_EL0.MT = 1 in every counter. -/
def withMt (s : State) : State :=
  { s with cfg := { s.cfg with haveMTPMU := true }, pmu := { s.pmu with evtyper := Vector.replicate 31 0x2000000 } }
def withHdfg (s : State) (v : Word) : State := { s with ctl := { s.ctl with hdfgrtrEl2 := v, hdfgwtrEl2 := v } }
def withScr (s : State) (v : Word) : State := { s with ctl := { s.ctl with scrEl3 := v } }
def halted (s : State) : State := { s with inp := { s.inp with halted := true } }

/-- K1 with EL3 at `el`, whose control register holds `mdcr3`. -/
def el3Ctl (el : EL) (a32 : Bool) (mdcr3 : Word) : State := withMdcr3 (place cfgEl3 el a32 6) mdcr3

/-- The same with EL3 using AArch32: `sdcr` holds its controls. -/
def monitorCtl (el : EL) (sdcr : Word32) : State :=
  let s := place cfgEl3 el true 6
  { s with inp := { s.inp with el3A32 := true }, ctl := { s.ctl with sdcr := sdcr } }

/-- The next state has taken an exception to `T` with syndrome `esr` from the pc of `place`. -/
def taken (o : Host.Outcome State Fault Refusal) (T : EL) (esr : Word) : Bool :=
  answers o fun t => t.ps.el == T && (t.bank T).esr == esr && (t.bank T).elr == 0x80001000

/-- The refusal of an outcome. -/
def refusal (o : Host.Outcome State Fault Refusal) : Option Refusal :=
  match o with
  | .refused r => some r
  | _ => none

/-! ### Well-formedness: counter number 31 does not exist (30_encoding.md R61) -/

theorem test_wf_mrsPmevcntrEl0 : (Instr.mrsPmevcntrEl0 31 0).wellFormed = false ∧
    (Instr.mrsPmevcntrEl0 30 0).wellFormed = true := by decide
theorem test_wf_msrPmevcntrEl0 : (Instr.msrPmevcntrEl0 31 0).wellFormed = false ∧
    (Instr.msrPmevcntrEl0 30 0).wellFormed = true := by decide
theorem test_wf_mrsPmevtyperEl0 : (Instr.mrsPmevtyperEl0 31 0).wellFormed = false ∧
    (Instr.mrsPmevtyperEl0 30 0).wellFormed = true := by decide
theorem test_wf_msrPmevtyperEl0 : (Instr.msrPmevtyperEl0 31 0).wellFormed = false ∧
    (Instr.msrPmevtyperEl0 30 0).wellFormed = true := by decide
theorem test_wf_mrcPmevcntr : (Instr.mrcPmevcntr 14 31 0).wellFormed = false ∧
    (Instr.mrcPmevcntr 14 30 0).wellFormed = true := by decide
theorem test_wf_mcrPmevcntr : (Instr.mcrPmevcntr 14 31 0).wellFormed = false ∧
    (Instr.mcrPmevcntr 14 30 0).wellFormed = true := by decide
theorem test_wf_mrcPmevtyper : (Instr.mrcPmevtyper 14 31 0).wellFormed = false ∧
    (Instr.mrcPmevtyper 14 30 0).wellFormed = true := by decide
theorem test_wf_mcrPmevtyper : (Instr.mcrPmevtyper 14 31 0).wellFormed = false ∧
    (Instr.mcrPmevtyper 14 30 0).wellFormed = true := by decide

/-! ### Decoding: one word of every row, written from the match and the fields of spec/opcode_table.json -/

theorem test_decode_mrs_control :
    decodeWord .a64 0xD53C1123 = .instr (.mrsMdcrEl2 3) := by decide

theorem test_decode_msr_control :
    decodeWord .a64 0xD51C112A = .instr (.msrMdcrEl2 10) := by decide

theorem test_decode_mrs_debug :
    decodeWord .a64 0xD5330111 = .instr (.mrsMdccsrEl0 17) ∧
    decodeWord .a64 0xD5300218 = .instr (.mrsMdccintEl1 24) ∧
    decodeWord .a64 0xD5300046 = .instr (.mrsOsdtrrxEl1 6) ∧
    decodeWord .a64 0xD5300354 = .instr (.mrsOsdtrtxEl1 20) ∧
    decodeWord .a64 0xD5330402 = .instr (.mrsDbgdtrEl0 2) ∧
    decodeWord .a64 0xD5330510 = .instr (.mrsDbgdtrrxEl0 16) ∧
    decodeWord .a64 0xD530025E = .instr (.mrsMdscrEl1 30) ∧
    decodeWord .a64 0xD530064C = .instr (.mrsOseccrEl1 12) ∧
    decodeWord .a64 0xD530029A = .instr (.mrsDbgbvrEl1 2 26) ∧
    decodeWord .a64 0xD53008A8 = .instr (.mrsDbgbcrEl1 8 8) ∧
    decodeWord .a64 0xD5300ED6 = .instr (.mrsDbgwvrEl1 14 22) ∧
    decodeWord .a64 0xD53004E4 = .instr (.mrsDbgwcrEl1 4 4) ∧
    decodeWord .a64 0xD53078D2 = .instr (.mrsDbgclaimsetEl1 18) ∧
    decodeWord .a64 0xD53079C0 = .instr (.mrsDbgclaimclrEl1 0) ∧
    decodeWord .a64 0xD5307ECE = .instr (.mrsDbgauthstatusEl1 14) ∧
    decodeWord .a64 0xD5301015 = .instr (.mrsMdrarEl1 21) ∧
    decodeWord .a64 0xD5301183 = .instr (.mrsOslsrEl1 3) ∧
    decodeWord .a64 0xD530138A = .instr (.mrsOsdlrEl1 10) ∧
    decodeWord .a64 0xD5301498 = .instr (.mrsDbgprcrEl1 24) := by decide

theorem test_decode_msr_debug :
    decodeWord .a64 0xD510021F = .instr (.msrMdccintEl1 31) ∧
    decodeWord .a64 0xD510004D = .instr (.msrOsdtrrxEl1 13) ∧
    decodeWord .a64 0xD510035B = .instr (.msrOsdtrtxEl1 27) ∧
    decodeWord .a64 0xD5130409 = .instr (.msrDbgdtrEl0 9) ∧
    decodeWord .a64 0xD5130517 = .instr (.msrDbgdtrtxEl0 23) ∧
    decodeWord .a64 0xD5100245 = .instr (.msrMdscrEl1 5) ∧
    decodeWord .a64 0xD5100653 = .instr (.msrOseccrEl1 19) ∧
    decodeWord .a64 0xD5100581 = .instr (.msrDbgbvrEl1 5 1) ∧
    decodeWord .a64 0xD5100BAF = .instr (.msrDbgbcrEl1 11 15) ∧
    decodeWord .a64 0xD51001DD = .instr (.msrDbgwvrEl1 1 29) ∧
    decodeWord .a64 0xD51007EB = .instr (.msrDbgwcrEl1 7 11) ∧
    decodeWord .a64 0xD51078D9 = .instr (.msrDbgclaimsetEl1 25) ∧
    decodeWord .a64 0xD51079C7 = .instr (.msrDbgclaimclrEl1 7) ∧
    decodeWord .a64 0xD510109C = .instr (.msrOslarEl1 28) ∧
    decodeWord .a64 0xD5101391 = .instr (.msrOsdlrEl1 17) ∧
    decodeWord .a64 0xD510149F = .instr (.msrDbgprcrEl1 31) := by decide

theorem test_decode_mrs_pmu :
    decodeWord .a64 0xD53B9C06 = .instr (.mrsPmcrEl0 6) ∧
    decodeWord .a64 0xD53B9C34 = .instr (.mrsPmcntensetEl0 20) ∧
    decodeWord .a64 0xD53B9C42 = .instr (.mrsPmcntenclrEl0 2) ∧
    decodeWord .a64 0xD53B9C70 = .instr (.mrsPmovsclrEl0 16) ∧
    decodeWord .a64 0xD53B9CA5 = .instr (.mrsPmselrEl0 5) ∧
    decodeWord .a64 0xD53B9CD3 = .instr (.mrsPmceid0El0 19) ∧
    decodeWord .a64 0xD53B9CFA = .instr (.mrsPmceid1El0 26) ∧
    decodeWord .a64 0xD53B9D01 = .instr (.mrsPmccntrEl0 1) ∧
    decodeWord .a64 0xD53B9D2F = .instr (.mrsPmxevtyperEl0 15) ∧
    decodeWord .a64 0xD53B9D5D = .instr (.mrsPmxevcntrEl0 29) ∧
    decodeWord .a64 0xD53B9E0B = .instr (.mrsPmuserenrEl0 11) ∧
    decodeWord .a64 0xD53B9E79 = .instr (.mrsPmovssetEl0 25) ∧
    decodeWord .a64 0xD5389E27 = .instr (.mrsPmintensetEl1 7) ∧
    decodeWord .a64 0xD5389E55 = .instr (.mrsPmintenclrEl1 21) ∧
    decodeWord .a64 0xD5389EC3 = .instr (.mrsPmmirEl1 3) ∧
    decodeWord .a64 0xD53BEFEA = .instr (.mrsPmccfiltrEl0 10) ∧
    decodeWord .a64 0xD53BE898 = .instr (.mrsPmevcntrEl0 4 24) ∧
    decodeWord .a64 0xD53BED86 = .instr (.mrsPmevtyperEl0 12 6) := by decide

theorem test_decode_msr_pmu :
    decodeWord .a64 0xD51B9C0D = .instr (.msrPmcrEl0 13) ∧
    decodeWord .a64 0xD51B9C3B = .instr (.msrPmcntensetEl0 27) ∧
    decodeWord .a64 0xD51B9C49 = .instr (.msrPmcntenclrEl0 9) ∧
    decodeWord .a64 0xD51B9C77 = .instr (.msrPmovsclrEl0 23) ∧
    decodeWord .a64 0xD51B9C9E = .instr (.msrPmswincEl0 30) ∧
    decodeWord .a64 0xD51B9CAC = .instr (.msrPmselrEl0 12) ∧
    decodeWord .a64 0xD51B9D08 = .instr (.msrPmccntrEl0 8) ∧
    decodeWord .a64 0xD51B9D36 = .instr (.msrPmxevtyperEl0 22) ∧
    decodeWord .a64 0xD51B9D44 = .instr (.msrPmxevcntrEl0 4) ∧
    decodeWord .a64 0xD51B9E12 = .instr (.msrPmuserenrEl0 18) ∧
    decodeWord .a64 0xD51B9E60 = .instr (.msrPmovssetEl0 0) ∧
    decodeWord .a64 0xD5189E2E = .instr (.msrPmintensetEl1 14) ∧
    decodeWord .a64 0xD5189E5C = .instr (.msrPmintenclrEl1 28) ∧
    decodeWord .a64 0xD51BEFF1 = .instr (.msrPmccfiltrEl0 17) ∧
    decodeWord .a64 0xD51BE91F = .instr (.msrPmevcntrEl0 8 31) ∧
    decodeWord .a64 0xD51BEE0D = .instr (.msrPmevtyperEl0 16 13) := by decide

theorem test_decode_mrs_profiling :
    decodeWord .a64 0xD5389914 = .instr (.mrsPmscrEl1 20) ∧
    decodeWord .a64 0xD5389942 = .instr (.mrsPmsicrEl1 2) ∧
    decodeWord .a64 0xD5389970 = .instr (.mrsPmsirrEl1 16) ∧
    decodeWord .a64 0xD538999E = .instr (.mrsPmsfcrEl1 30) ∧
    decodeWord .a64 0xD53899AC = .instr (.mrsPmsevfrEl1 12) ∧
    decodeWord .a64 0xD53899DA = .instr (.mrsPmslatfrEl1 26) ∧
    decodeWord .a64 0xD53899E8 = .instr (.mrsPmsidrEl1 8) ∧
    decodeWord .a64 0xD5389A0F = .instr (.mrsPmblimitrEl1 15) ∧
    decodeWord .a64 0xD5389A3D = .instr (.mrsPmbptrEl1 29) ∧
    decodeWord .a64 0xD5389A6B = .instr (.mrsPmbsrEl1 11) ∧
    decodeWord .a64 0xD5389AF9 = .instr (.mrsPmbidrEl1 25) ∧
    decodeWord .a64 0xD5381220 = .instr (.mrsTrfcrEl1 0) := by decide

theorem test_decode_msr_profiling :
    decodeWord .a64 0xD518991B = .instr (.msrPmscrEl1 27) ∧
    decodeWord .a64 0xD5189949 = .instr (.msrPmsicrEl1 9) ∧
    decodeWord .a64 0xD5189977 = .instr (.msrPmsirrEl1 23) ∧
    decodeWord .a64 0xD5189985 = .instr (.msrPmsfcrEl1 5) ∧
    decodeWord .a64 0xD51899B3 = .instr (.msrPmsevfrEl1 19) ∧
    decodeWord .a64 0xD51899C1 = .instr (.msrPmslatfrEl1 1) ∧
    decodeWord .a64 0xD5189A16 = .instr (.msrPmblimitrEl1 22) ∧
    decodeWord .a64 0xD5189A24 = .instr (.msrPmbptrEl1 4) ∧
    decodeWord .a64 0xD5189A72 = .instr (.msrPmbsrEl1 18) ∧
    decodeWord .a64 0xD5181227 = .instr (.msrTrfcrEl1 7) := by decide

theorem test_decode_mrc_control :
    decodeWord .a32 0x3E919F31 = .instr (.mrcHdcr 3 9) := by decide

theorem test_decode_mcr_control :
    decodeWord .a32 0x4E811F31 = .instr (.mcrHdcr 4 1) := by decide

theorem test_decode_mrc_debug :
    decodeWord .a32 0x5E108E10 = .instr (.mrcDbgdidr 5 8) ∧
    decodeWord .a32 0x6E100E11 = .instr (.mrcDbgdscrint 6 0) ∧
    decodeWord .a32 0x7E107E15 = .instr (.mrcDbgdtrrxint 7 7) ∧
    decodeWord .a32 0x9E106E12 = .instr (.mrcDbgdccint 9 6) ∧
    decodeWord .a32 0xBE105E50 = .instr (.mrcDbgdtrrxext 11 5) ∧
    decodeWord .a32 0xDE104E53 = .instr (.mrcDbgdtrtxext 13 4) ∧
    decodeWord .a32 0x0E103E52 = .instr (.mrcDbgdscrext 0 3) ∧
    decodeWord .a32 0x2E102E16 = .instr (.mrcDbgwfar 2 2) ∧
    decodeWord .a32 0x4E101E17 = .instr (.mrcDbgvcr 4 1) ∧
    decodeWord .a32 0x6E100E56 = .instr (.mrcDbgoseccr 6 0) ∧
    decodeWord .a32 0x8E10EE92 = .instr (.mrcDbgbvr 8 2 14) ∧
    decodeWord .a32 0xAE10DEB8 = .instr (.mrcDbgbcr 10 8 13) ∧
    decodeWord .a32 0xCE10CEDE = .instr (.mrcDbgwvr 12 14 12) ∧
    decodeWord .a32 0xEE10BEF4 = .instr (.mrcDbgwcr 14 4 11) ∧
    decodeWord .a32 0x1E11AE3A = .instr (.mrcDbgbxvr 1 10 10) ∧
    decodeWord .a32 0x3E179ED8 = .instr (.mrcDbgclaimset 3 9) ∧
    decodeWord .a32 0x5E178ED9 = .instr (.mrcDbgclaimclr 5 8) ∧
    decodeWord .a32 0x7E177EDE = .instr (.mrcDbgauthstatus 7 7) ∧
    decodeWord .a32 0x8E17EEF2 = .instr (.mrcDbgdevid 8 14) ∧
    decodeWord .a32 0x9E176EF1 = .instr (.mrcDbgdevid1 9 6) ∧
    decodeWord .a32 0xAE17DEF0 = .instr (.mrcDbgdevid2 10 13) ∧
    decodeWord .a32 0xBE115E10 = .instr (.mrcDbgdrar 11 5) ∧
    decodeWord .a32 0xCE12CE10 = .instr (.mrcDbgdsar 12 12) ∧
    decodeWord .a32 0xEE11BE91 = .instr (.mrcDbgoslsr 14 11) ∧
    decodeWord .a32 0x0E113E93 = .instr (.mrcDbgosdlr 0 3) ∧
    decodeWord .a32 0x2E112E94 = .instr (.mrcDbgprcr 2 2) := by decide

theorem test_decode_mcr_debug :
    decodeWord .a32 0x8E00EE15 = .instr (.mcrDbgdtrtxint 8 14) ∧
    decodeWord .a32 0xAE00DE12 = .instr (.mcrDbgdccint 10 13) ∧
    decodeWord .a32 0xCE00CE50 = .instr (.mcrDbgdtrrxext 12 12) ∧
    decodeWord .a32 0xEE00BE53 = .instr (.mcrDbgdtrtxext 14 11) ∧
    decodeWord .a32 0x1E00AE52 = .instr (.mcrDbgdscrext 1 10) ∧
    decodeWord .a32 0x3E009E16 = .instr (.mcrDbgwfar 3 9) ∧
    decodeWord .a32 0x5E008E17 = .instr (.mcrDbgvcr 5 8) ∧
    decodeWord .a32 0x7E007E56 = .instr (.mcrDbgoseccr 7 7) ∧
    decodeWord .a32 0x9E006E95 = .instr (.mcrDbgbvr 9 5 6) ∧
    decodeWord .a32 0xBE005EBB = .instr (.mcrDbgbcr 11 11 5) ∧
    decodeWord .a32 0xDE004ED1 = .instr (.mcrDbgwvr 13 1 4) ∧
    decodeWord .a32 0x0E003EF7 = .instr (.mcrDbgwcr 0 7 3) ∧
    decodeWord .a32 0x2E012E3D = .instr (.mcrDbgbxvr 2 13 2) ∧
    decodeWord .a32 0x4E071ED8 = .instr (.mcrDbgclaimset 4 1) ∧
    decodeWord .a32 0x6E070ED9 = .instr (.mcrDbgclaimclr 6 0) ∧
    decodeWord .a32 0xDE014E90 = .instr (.mcrDbgoslar 13 4) ∧
    decodeWord .a32 0x1E01AE93 = .instr (.mcrDbgosdlr 1 10) ∧
    decodeWord .a32 0x3E019E94 = .instr (.mcrDbgprcr 3 9) := by decide

theorem test_decode_mrc_profiling :
    decodeWord .a32 0x4E111F32 = .instr (.mrcTrfcr 4 1) := by decide

theorem test_decode_mcr_profiling :
    decodeWord .a32 0x5E018F32 = .instr (.mcrTrfcr 5 8) := by decide

theorem test_decode_mrc_pmu :
    decodeWord .a32 0x6E190F1C = .instr (.mrcPmcr 6 0) ∧
    decodeWord .a32 0x8E19EF3C = .instr (.mrcPmcntenset 8 14) ∧
    decodeWord .a32 0xAE19DF5C = .instr (.mrcPmcntenclr 10 13) ∧
    decodeWord .a32 0xCE19CF7C = .instr (.mrcPmovsr 12 12) ∧
    decodeWord .a32 0x0E193FBC = .instr (.mrcPmselr 0 3) ∧
    decodeWord .a32 0x2E192FDC = .instr (.mrcPmceid0 2 2) ∧
    decodeWord .a32 0x3E199FFC = .instr (.mrcPmceid1 3 9) ∧
    decodeWord .a32 0x4E191F9E = .instr (.mrcPmceid2 4 1) ∧
    decodeWord .a32 0x5E198FBE = .instr (.mrcPmceid3 5 8) ∧
    decodeWord .a32 0x6E190F1D = .instr (.mrcPmccntr 6 0) ∧
    decodeWord .a32 0x8E19EF3D = .instr (.mrcPmxevtyper 8 14) ∧
    decodeWord .a32 0xAE19DF5D = .instr (.mrcPmxevcntr 10 13) ∧
    decodeWord .a32 0xCE19CF1E = .instr (.mrcPmuserenr 12 12) ∧
    decodeWord .a32 0xEE19BF3E = .instr (.mrcPmintenset 14 11) ∧
    decodeWord .a32 0x1E19AF5E = .instr (.mrcPmintenclr 1 10) ∧
    decodeWord .a32 0x3E199F7E = .instr (.mrcPmovsset 3 9) ∧
    decodeWord .a32 0x5E198FDE = .instr (.mrcPmmir 5 8) ∧
    decodeWord .a32 0x6E1E0FFF = .instr (.mrcPmccfiltr 6 0) ∧
    decodeWord .a32 0x8E1EEF3B = .instr (.mrcPmevcntr 8 25 14) ∧
    decodeWord .a32 0xAE1EDF5C = .instr (.mrcPmevtyper 10 2 13) := by decide

theorem test_decode_mcr_pmu :
    decodeWord .a32 0x7E097F1C = .instr (.mcrPmcr 7 7) ∧
    decodeWord .a32 0x9E096F3C = .instr (.mcrPmcntenset 9 6) ∧
    decodeWord .a32 0xBE095F5C = .instr (.mcrPmcntenclr 11 5) ∧
    decodeWord .a32 0xDE094F7C = .instr (.mcrPmovsr 13 4) ∧
    decodeWord .a32 0xEE09BF9C = .instr (.mcrPmswinc 14 11) ∧
    decodeWord .a32 0x1E09AFBC = .instr (.mcrPmselr 1 10) ∧
    decodeWord .a32 0x7E097F1D = .instr (.mcrPmccntr 7 7) ∧
    decodeWord .a32 0x9E096F3D = .instr (.mcrPmxevtyper 9 6) ∧
    decodeWord .a32 0xBE095F5D = .instr (.mcrPmxevcntr 11 5) ∧
    decodeWord .a32 0xDE094F1E = .instr (.mcrPmuserenr 13 4) ∧
    decodeWord .a32 0x0E093F3E = .instr (.mcrPmintenset 0 3) ∧
    decodeWord .a32 0x2E092F5E = .instr (.mcrPmintenclr 2 2) ∧
    decodeWord .a32 0x4E091F7E = .instr (.mcrPmovsset 4 1) ∧
    decodeWord .a32 0x7E0E7FFF = .instr (.mcrPmccfiltr 7 7) ∧
    decodeWord .a32 0x9E0E6FBB = .instr (.mcrPmevcntr 9 29 6) ∧
    decodeWord .a32 0xBE0E5FDC = .instr (.mcrPmevtyper 11 6 5) := by decide

theorem test_decode_transfer :
    decodeWord .a32 0xCC51CE01 = .instr (.mrrcDbgdrar 12 12 1) ∧
    decodeWord .a32 0xDC584E02 = .instr (.mrrcDbgdsar 13 4 8) ∧
    decodeWord .a32 0xEC50BF09 = .instr (.mrrcPmccntr 14 11 0) ∧
    decodeWord .a32 0x0C473F09 = .instr (.mcrrPmccntr 0 3 7) ∧
    decodeWord .a32 0x1D365EA5 = .instr (.ldcDbgdtrtxint 1 true false true 6 165) ∧
    decodeWord .a32 0x2CAD5E3C = .instr (.stcDbgdtrrxint 2 false true true 13 60) := by decide

/-- The same word as a table word, in the byte order of the fetch, and from its T32 halfwords (30_encoding.md R65, R67). -/
theorem test_decode_table_and_t32 :
    decodeTableWord 32 0xD53C1123 = some (.mrsMdcrEl2 3) ∧ decodeTableWord 32 0xEE912F31 = some (.mrcHdcr 14 2) ∧
    decode .t32 [0x91, 0xEE, 0x31, 0x2F] = .instr (.mrcHdcr 14 2) := by decide

/-! ### Steps: withFetchWord, and the helper words of 95_test_vectors.md Part 3 -/

theorem test_step_fetches : answers (step ((k1 .el2 0xE46).withFetchWord 32 0xD53C1123)) (fun t =>
    t.getX 3 == 0xE46 && t.pc == 0x80001004) = true := by decide

theorem test_step_fetches_a32 : answers (step ((k1 .el2 0x7E46).withFetchWord 32 0xEE912F31)) (fun t =>
    t.getX 2 == 0xE46 && t.pc == 0x80001004) = true := by decide

/-- The first word of program P1. -/
theorem test_step_movz : answers (step ((k1 .el2 0).setBytes 0x80001000 [0x80, 0x48, 0x86, 0xD2])) (fun t =>
    t.getX 0 == 0x3244) = true := by decide

/-- Vector X4: the ERET of program P2. -/
theorem test_x4_eret :
    let s := (k1 .el2 0).setBytes 0x80001000 [0xE0, 0x03, 0x9F, 0xD6]
    answers (step { s with exc := { s.exc with el2 := { s.exc.el2 with elr := 0x80001000, spsr := 5 } } }) (fun t =>
      t.pc == 0x80001000 && t.ps.el == .el1 && t.ps.sp && !t.ps.d && !t.ps.a && !t.ps.i && !t.ps.f) = true := by decide

/-! ### Vectors A: MDCR_EL2 and HDCR -/

theorem test_a1 : answers (exec (.mrsMdcrEl2 3) (k1 .el2 0xE46)) (fun t => t.getX 3 == 0xE46 && t.pc == 0x80001004) = true := by decide

theorem test_a3 : taken (exec (.mrsMdcrEl2 0) (k1 .el0 6)) .el1 0x02000000 = true := by decide

theorem test_a7 : taken (exec (.msrMdcrEl2 5) (withHcr (place cfgNv .el1 false 6) 0x40000000000)) .el2 0x623304A2 = true := by decide

theorem test_a10 : taken (exec (.msrMdcrEl2 31) (withMdcr3 (place cfgEl3 .el2 false 6) 0x200)) .el3 0x623307E2 = true := by decide

theorem test_a21 : answers (exec (.mrcHdcr 14 2) (k1A32 .el2 0x7E46)) (fun t => t.getX 2 == 0xE46) = true := by decide

theorem test_a22 : answers (exec (.mcrHdcr 14 1) ((k1A32 .el2 0x7006).setX 1 0xF48)) (fun t => t.ctl.mdcrEl2 == 0x7F48) = true := by decide

theorem test_a23 : taken (exec (.mrcHdcr 14 3) (withHstr (k1A32 .el1 6) 2)) .el2 0x0FE30463 = true := by decide

theorem test_a25 : taken (exec (.mcrHdcr 14 1) (withMdcr3 (place cfgEl3 .el2 true 6) 0x200)) .el3 0x0FE30422 = true := by decide

/-! ### Vectors B: debug registers -/

theorem test_b1 : taken (exec (.mrsMdscrEl1 2) (k1 .el1 0x200)) .el2 0x62240045 = true := by decide

theorem test_b2 : taken (exec (.msrMdscrEl1 0) (k1 .el1 0x100)) .el2 0x62240004 = true := by decide

theorem test_b7 : taken (exec (.mrsMdccsrEl0 0) (k1 .el1 0x8000000)) .el2 0x6220C003 = true := by decide

theorem test_b8 : taken (exec (.mrsMdccsrEl0 0) (withMdscr (k1 .el0 0x8000000) 0x1000)) .el1 0x6220C003 = true := by decide

theorem test_b9 : taken (exec (.msrDbgdtrtxEl0 0) (withHcr (withMdscr (k1 .el0 0) 0x1000) 0x8000000)) .el2 0x6220C00A = true := by decide

theorem test_b11 : taken (exec (.mrsDbgdtrrxEl0 7) (k1 .el0 0x200)) .el2 0x6220C0EB = true := by decide

theorem test_b12 : answers (exec (.mrsDbgdtrrxEl0 7) (halted (k1 .el0 0x200))) (fun t => t.pc == 0x80001004 && t.ps.el == .el0) = true := by decide

theorem test_b13 : taken (exec (.mrsMdrarEl1 0) (k1 .el1 0x800)) .el2 0x62200401 = true := by decide

theorem test_b15 : taken (exec (.msrOslarEl1 3) (k1 .el1 0x400)) .el2 0x62280460 = true := by decide

theorem test_b16 : taken (exec (.mrsOsdlrEl1 0) (k1 .el1 0x400)) .el2 0x62280407 = true := by decide

theorem test_b17 : answers (exec (.mrsOsdlrEl1 0) (place { Config.k1 with haveDoubleLock := false } .el1 false 0x400)) (fun t => t.ps.el == .el1) = true := by decide

theorem test_b18 : taken (exec (.mrsDbgbvrEl1 5 0) (k1 .el1 0x200)) .el2 0x6228000B = true := by decide

theorem test_b19 : taken (exec (.mrsDbgwcrEl1 15 0) (k1 .el1 0x200)) .el2 0x622E001F = true := by decide

theorem test_b24 : taken (exec (.mrcDbgdscrext 14 1) (k1A32 .el1 0x200)) .el2 0x17E40025 = true := by decide

theorem test_b25 : taken (exec (.mrcDbgdrar 14 0) (k1A32 .el1 0x800)) .el2 0x17E00401 = true := by decide

theorem test_b26 : taken (exec (.mrrcDbgdrar 14 0 1) (k1A32 .el1 0x800)) .el2 0x33E00403 = true := by decide

theorem test_b27 : taken (exec (.mcrDbgoslar 14 0) (k1A32 .el1 0x400)) .el2 0x17E80400 = true := by decide

theorem test_b28 : taken (step (withEvent (k1 .el1 0x100) (.debugException (.brk 0x1234)))) .el2 0xF2001234 = true := by decide

theorem test_b29 : taken (step (withEvent (k1 .el1 0) (.debugException (.brk 0x1234)))) .el1 0xF2001234 = true := by decide

/-! ### Vectors U: Performance Monitors -/

theorem test_u1 : taken (exec (.mrsPmcntensetEl0 3) (k1 .el1 0x46)) .el2 0x6232E479 = true := by decide

theorem test_u2 : taken (exec (.mrsPmcrEl0 6) (k1 .el1 0x26)) .el2 0x6230E4D9 = true := by decide

theorem test_u4 : taken (exec (.mrsPmcrEl0 0) (withUserenr (k1 .el0 0x46) 0)) .el1 0x6230E419 = true := by decide

theorem test_u8 : answers (exec (.mrsPmcrEl0 0) (k1 .el1 4)) (fun t => t.getX 0 == 0x2000) = true := by decide

theorem test_u10 : taken (exec (.mrsPmevcntrEl0 4 1) (k1 .el1 4)) .el2 0x6238F831 = true := by decide

theorem test_u13 : taken (exec (.mrsPmevcntrEl0 6 1) (k1 .el1 0x44)) .el1 0x02000000 = true := by decide

theorem test_u14 : taken (exec (.msrPmevtyperEl0 4 2) (k1 .el1 4)) .el2 0x6238F858 = true := by decide

theorem test_u15 : taken (exec (.mrsPmxevcntrEl0 3) (withSelr (k1 .el1 4) 4)) .el2 0x6234E47B = true := by decide

theorem test_u16 : taken (exec (.mrsPmxevcntrEl0 3) (withSelr (k1 .el1 4) 31)) .el1 0x02000000 = true := by decide

theorem test_u17 : answers (exec (.mrsPmxevtyperEl0 3) (withSelr (k1 .el1 4) 31)) (fun t => t.pc == 0x80001004) = true := by decide

theorem test_u19 : answers (exec (.mrsPmcntensetEl0 3) (withEnables (k1 .el1 4) 0x8000003F)) (fun t => t.getX 3 == 0x8000000F) = true := by decide

theorem test_u21 : answers (exec (.msrPmcntenclrEl0 0) (withEnables ((k1 .el1 4).setX 0 0xFFFFFFFF) 0x8000003F)) (fun t => t.pmu.pmcnten == 0x30) = true := by decide

theorem test_u22 :
    let s := (k1 .el1 4).setX 1 2
    answers (exec (.msrPmcrEl0 1) { s with pmu := { s.pmu with evcntr := Vector.replicate 31 7, pmccntr := 7 } })
      (fun t => vget t.pmu.evcntr 3 == 0 && vget t.pmu.evcntr 4 == 7 && t.pmu.pmccntr == 7) = true := by decide

/-- Vector U25: a carry out of bit 31 sets the flag of counter 5 (HLP = 0), not that of counter 2 (LP = 1). -/
theorem test_u25 :
    let s := withPmcr (withEnables (k1 .el1 0x84) 0x3F) 0x3081
    let s := { s with pmu := { s.pmu with evcntr := Vector.replicate 31 0xFFFFFFFF } }
    answers (step (withEvent s (.counterEvent 5 .thisPE))) (fun t => vget t.pmu.evcntr 5 == 0x100000000 && t.pmu.pmovs == 0x20) &&
    answers (step (withEvent s (.counterEvent 2 .thisPE))) (fun t => vget t.pmu.evcntr 2 == 0x100000000 && t.pmu.pmovs == 0) =
      true := by decide

/-- 70_reset_and_hazards.md R277: with MT = 1 another PE's event counts under MTPME = 1, not under MTPME = 0; this PE's
event counts in both. -/
theorem test_event_source :
    let s (mdcr : Word) := withMt (withPmcr (withEnables (k1 .el1 mdcr) 0x3F) 0x3001)
    let counted (mdcr : Word) (source : EventSource) (v : Word) : Bool :=
      answers (step (withEvent (s mdcr) (.counterEvent 2 source))) (fun t => vget t.pmu.evcntr 2 == v)
    counted 0x10000084 .affinityPE 1 = true ∧ counted 0x84 .affinityPE 0 = true ∧
    counted 0x10000084 .thisPE 1 = true ∧ counted 0x84 .thisPE 1 = true := by decide

/-- 41_debug_traps.md R103 with 30_encoding.md R65: the MRC words of an extra register of TDOSA. A T32 word with another
top nibble than 0b1110 is no MRC; with it, it traps, and so does either word that passes its condition in A32. -/
theorem test_tdosa_extra_t32 :
    let s (thumb : Bool) : State :=
      let k := k1A32 .el1 0x406
      { k with cfg := { k.cfg with tdosaExtra32 := [⟨14, 0, 3, 4, 4⟩] }, ps := { k.ps with thumb := thumb } }
    refusal (runOther 0xAE132E94 (s true)) = some (.encodingOutsideSpec 0xAE132E94) ∧
    answers (runOther 0xEE132E94 (s true)) (fun t => t.ps.el == .el2) = true ∧
    answers (runOther 0xAE132E94 (s false)) (fun t => t.ps.el == .el2) = true ∧
    taken (runOther 0xEE132E94 (s false)) .el2 0x17E80C49 = true := by decide

theorem test_u33 : taken (exec (.mrcPmcntenset 14 2) { k1A32 .el0 0x46 with inp := (k1 .el0 0).inp }) .el2 0x0FE22459 = true := by decide

theorem test_u34 : taken (exec (.mrrcPmccntr 14 0 1) (k1A32 .el1 0x46)) .el2 0x13E00413 = true := by decide

/-! ### Vectors T: profiling and trace filter -/

theorem test_t1 : taken (exec (.mrsPmscrEl1 4) (k1 .el1 0x4000)) .el2 0x62302493 = true := by decide

theorem test_t2 : taken (exec (.mrsPmsidrEl1 0) (k1 .el1 0x4000)) .el2 0x623E2413 = true := by decide

theorem test_t4 : taken (exec (.msrPmblimitrEl1 7) (k1 .el1 0)) .el2 0x623024F4 = true := by decide

theorem test_t5 : taken (exec (.mrsPmbptrEl1 0) (k1 .el1 0x2000)) .el2 0x62322415 = true := by decide

theorem test_t6 : answers (exec (.mrsPmbsrEl1 2) (k1 .el1 0x3000)) (fun t => t.ps.el == .el1 && t.pc == 0x80001004) = true := by decide

theorem test_t8 : answers (exec (.mrsPmbidrEl1 0) (k1 .el1 0)) (fun t => t.getX 0 == 0x10) = true := by decide

theorem test_t12 : taken (exec (.msrTrfcrEl1 9) (k1 .el1 0x80000)) .el2 0x62320524 = true := by decide

theorem test_t14 : taken (exec (.mrcTrfcr 14 5) (k1A32 .el1 0x80000)) .el2 0x0FE204A5 = true := by decide

/-! ### Vectors X and Z: exception entry, reset -/

theorem test_x1 : answers (exec (.mrsMdscrEl1 2) ((k1 .el1 0x200).setX 2 0xAAAA)) (fun t =>
    t.exc.el2.spsr == 5 && t.ps.sp && t.ps.d && t.pc == 0x40000C00 && t.getX 2 == 0xAAAA) = true := by decide

theorem test_x2 : answers (exec (.mrcDbgdscrext 14 1) { k1A32 .el1 0x200 with pc := 0x8000 }) (fun t =>
    t.exc.el2.elr == 0x8000 && t.exc.el2.spsr.getLsbD 4 && t.pc == 0x40000E00) = true := by decide

theorem test_z_reset : (State.reset.ps.el == .el2 && State.reset.ctl.mdcrEl2 == 6 && State.reset.pc == 0) = true := by decide

/-- 10_state.md R38: with {EEL2, NS} = {1, 0} EL2 is using AArch64 whatever the input says. -/
theorem test_r38_secure_el2 :
    let s := withScr (place { cfgEl3 with haveSecEL2 := true } .el2 true 6) 0x40000
    s.inp.el2A32 = true ∧ s.elA32 .el2 = false ∧ (withScr s 0x40001).elA32 .el2 = true := by decide

/-- The model's choice (notes/assumptions 33): an unallocated AArch32 word whose condition fails only moves on. -/
theorem test_unallocated_failed_condition :
    let s := { k1A32 .el0 6 with inp := (k1 .el0 0).inp }
    (answers (step (s.setBytes 0x80001000 [0x10, 0x0E, 0x00, 0x0E])) (fun t => t.pc == 0x80001004) &&
      taken (step (s.setBytes 0x80001000 [0x10, 0x0E, 0x00, 0xEE])) .el1 0x02000000) = true := by decide

/-! ### Witnesses: a state and operands that meet the hypotheses of each obligation, clause by clause -/

theorem reset_inv : State.reset.Inv :=
  ⟨by decide, by decide, by decide, by decide, by decide, by decide, by decide⟩

/-- K1 at EL1 with HPMN 4 and an instruction at the pc. -/
def atMrs : State := (k1 .el1 4).setBytes 0x80001000 (bytesOfWord .a64 0xD53B9C23)

theorem atMrs_inv : atMrs.Inv := ⟨by decide, by decide, by decide, by decide, by decide, by decide, by decide⟩

theorem witness_DecodeInvertsEncode :
    (Instr.mrsPmevtyperEl0 30 31).wellFormed = true ∧ (Instr.mcrPmevcntr 14 0 15).wellFormed = true ∧
    (Instr.mcrPmevcntr 14 0 15).condField = some 14 := by decide

theorem witness_EncodeInvertsDecode :
    decodeWord .a64 0xD53C113F = .instr (.mrsMdcrEl2 31) ∧ decodeWord .a32 0xFE912F31 = .instr (.mrcHdcr 15 2) ∧
    decodeWord .t32 0xEE912F31 = .instr (.mrcHdcr 14 2) := by decide

theorem witness_UnallocatedDirectionsAreUndefined :
    let s := (k1 .el1 4).setBytes 0x80001000 (bytesOfWord .a64 0xD513011F)
    let a32 (cond : Byte) := { (k1A32 .el1 4).setBytes 0x80001000 [0x10, 0x0E, 0x00, cond] with pc := 0x80001000 }
    (s.events = [] ∧ s.pcAligned = true ∧ s.fetch = .unallocated 0xD513011F ∧ s.ps.nRW = false) ∧
    ((a32 0xEE).events = [] ∧ (a32 0xEE).pcAligned = true ∧ (a32 0xEE).fetch = .unallocated 0xEE000E10 ∧
      (a32 0xEE).condPassed ((0xEE000E10 : Word32).extractLsb' 28 4) = true) ∧
    ((a32 0x0E).events = [] ∧ (a32 0x0E).pcAligned = true ∧ (a32 0x0E).fetch = .unallocated 0x0E000E10 ∧
      (a32 0x0E).ps.nRW = true ∧ (a32 0x0E).condPassed ((0x0E000E10 : Word32).extractLsb' 28 4) = false) := by decide

theorem witness_SyndromeOfA64Access :
    decodeWord .a64 0xD53BEFE0 = .instr (.mrsPmccfiltrEl0 0) ∧
    (Instr.mrsPmccfiltrEl0 0).form = .a64 true ⟨3, 3, 14, 15, 7⟩ 0 := by decide

theorem witness_SyndromeOfAArch32Access :
    let s := k1A32 .el1 4
    let t := { s with ps := { s.ps with thumb := true } }
    (14 : RReg) ≠ 15 ∧ s.ps.thumb = false ∧ s.condPassed 0 = false ∧ t.ps.thumb = true ∧ t.cfg.t32CvPolicy = .cv0 ∧
    { t with cfg := { t.cfg with t32CvPolicy := .cv1 } }.cfg.t32CvPolicy = .cv1 ∧ (12 : RReg).toNat ≤ 12 ∧
    (14 : RReg).toNat ≤ 14 ∧ (k1A32 .el0 4).ps.el = .el0 := by decide

theorem witness_StepRunsDecodedInstruction :
    atMrs.events = [] ∧ atMrs.pcAligned = true ∧ atMrs.fetch = .instr (.mrsPmcntensetEl0 3) ∧
    (Instr.mrsPmcntensetEl0 3).wellFormed = true ∧ ∃ t, exec (.mrsPmcntensetEl0 3) atMrs = .next t :=
  ⟨by decide, by decide, by decide, by decide, _, rfl⟩

theorem witness_StepKeepsInvariant : atMrs.Inv ∧ ∃ t, step atMrs = .next t := ⟨atMrs_inv, _, rfl⟩

theorem witness_StepKeepsConfiguration : ∃ t, step (withEvent (k1 .el1 4) .warmReset) = .next t := ⟨_, rfl⟩

theorem witness_RegisterFrame :
    (∃ t, exec (.mrsMdcrEl2 3) (k1 .el2 6) = .next t) ∧ (4 : XReg) ∉ (Instr.mrsMdcrEl2 3).writesX ∧
    (30 : XReg) ∉ (Instr.mrrcPmccntr 14 0 1).writesX ∧ (30 : XReg) ≠ 31 ∧ (14 : RReg) ≠ 15 :=
  ⟨⟨_, rfl⟩, by decide, by decide, by decide, by decide⟩

theorem witness_MemoryFrame :
    let nv := withHcr (place cfgNv .el1 false 0x3004) 0x2C0000000000
    (∃ t, exec (.msrMdcrEl2 3) (k1 .el2 6) = .next t) ∧ (Instr.msrMdcrEl2 3).storeAt (k1 .el2 6) = none ∧
    (∃ t, exec (.stcDbgdtrrxint 14 true false true 13 255) (k1A32 .el1 4) = .next t) ∧
    ((Instr.stcDbgdtrrxint 14 true false true 13 255).storeAt (k1A32 .el1 4)).isSome = true ∧
    (Instr.msrPmbsrEl1 0).storeAt nv = some (0x820, 8) ∧ (Instr.msrTrfcrEl1 0).storeAt nv = some (0x880, 8) :=
  ⟨⟨_, rfl⟩, by decide, ⟨_, rfl⟩, by decide, by decide, by decide⟩

theorem witness_FlagsNeverChange : ∃ t, exec (.mrsMdcrEl2 3) (k1 .el0 6) = .next t := ⟨_, rfl⟩

theorem witness_SystemRegisterFrame :
    (∃ t, exec (.msrPmcrEl0 3) (k1 .el1 6) = .next t) ∧ (Instr.msrPmcrEl0 3).group = .pmu ∧
    (Instr.mcrHdcr 14 3).group = .control ∧ (Instr.mcrDbgosdlr 14 3).group = .debug ∧
    (Instr.mcrTrfcr 14 3).group = .profiling := ⟨⟨_, rfl⟩, by decide, by decide, by decide, by decide⟩

theorem witness_FailedConditionIsANop :
    (Instr.mrcHdcr 0 2).condField = some 0 ∧ (k1A32 .el2 6).condPassed 0 = false ∧
    (k1A32 .el2 6).cfg.trapFailedCondition = false := by decide

theorem witness_DebugStateTransfersAreNeverTrapped :
    (halted (k1 .el0 0x200)).inp.halted = true ∧ (halted (k1A32 .el1 0x200)).inp.halted = true ∧
    (halted (k1A32 .el1 0x200)).condPassed 14 = true := by decide

/-- Each of the six cases of a chain of MDCR_EL2. -/
theorem witness_MdcrReadByLevel :
    let nv := withHcr (place cfgNv .el1 false 6) 0x40000000000
    let tda3 := withMdcr3 (place cfgEl3 .el2 false 6) 0x200
    let no3 := place cfgEl3 .el2 false 6
    (k1 .el0 6).ps.el = .el0 ∧
    (nv.ps.el = .el1 ∧ nv.el2Enabled = true ∧ nv.cfg.haveNV = true ∧ nv.ctl.hcrEl2.getLsbD 42 = true) ∧
    ((k1 .el1 6).ps.el = .el1 ∧ (k1 .el1 6).cfg.haveNV = false) ∧
    (tda3.ps.el = .el2 ∧ tda3.cfg.haveEL3 = true ∧ tda3.inp.el3A32 = false ∧ tda3.ctl.mdcrEl3.getLsbD 9 = true) ∧
    (no3.ps.el = .el2 ∧ no3.ctl.mdcrEl3.getLsbD 9 = false) ∧ (place cfgEl3 .el3 false 6).ps.el = .el3 := by decide

/-- The cases are those of the read; here the worked example, whose bits [4:0] are any value. -/
theorem witness_MdcrWriteByLevel :
    let s := (place cfgEl3 .el2 false 6).setX 30 0xFFFFFFFFFFFFFFFF
    s.ps.el = .el2 ∧ s.cfg.haveEL2 = true ∧ s.cfg.haveEL3 = true ∧ s.ctl.mdcrEl3.getLsbD 9 = false ∧
    s.cfg.havePMUv3 = true ∧ s.cfg.havePMUv3p1 = true ∧ s.cfg.havePMUv3p5 = true ∧ s.cfg.haveFGT = true ∧
    s.cfg.haveTraceFilt = true ∧ s.cfg.haveSPE = true ∧ s.cfg.res0BitsStored = false ∧
    s.getX 30 = 0xFFFFFFFFFFFFFFFF := by decide

/-- EL2 using AArch32 on a PE whose HDCR.HLP is RAZ/WI (42_pmu_controls.md R176), the bit stored as 1. -/
def atRazwi : State := place { Config.k1 with hlpRazwiWhenTopA32 := true, resetIntoAArch64 := false } .el2 true 0xC007E46

/-- The nine cases of a chain of HDCR, and a PE on which bit 26 is the RAZ/WI bit of R176. -/
theorem witness_HdcrReadByLevel :
    let t1 := withHstr (k1A32 .el1 6) 2
    let hyp := { t1 with inp := { t1.inp with el2A32 := true } }
    let tda3 := withMdcr3 (place cfgEl3 .el2 true 6) 0x200
    let el3 := place cfgEl3 .el3 true 6
    let secure := { el3 with ctl := { el3.ctl with scrEl3 := 0 } }
    ((k1A32 .el0 6).condPassed 14 = true ∧ (k1A32 .el0 6).ps.el = .el0) ∧
    (t1.condPassed 14 = true ∧ t1.ps.el = .el1 ∧ t1.el2Enabled = true ∧ t1.elA32 .el2 = false ∧
      t1.ctl.hstrEl2.getLsbD 1 = true) ∧
    (hyp.condPassed 14 = true ∧ hyp.ps.el = .el1 ∧ hyp.el2Enabled = true ∧ hyp.elA32 .el2 = true ∧
      hyp.ctl.hstrEl2.getLsbD 1 = true) ∧
    ((k1A32 .el1 6).condPassed 15 = true ∧ (k1A32 .el1 6).ps.el = .el1 ∧ (k1A32 .el1 6).ctl.hstrEl2.getLsbD 1 = false) ∧
    (tda3.condPassed 1 = true ∧ tda3.ps.el = .el2 ∧ tda3.cfg.haveEL3 = true ∧ tda3.inp.el3A32 = false ∧
      tda3.ctl.mdcrEl3.getLsbD 9 = true) ∧
    ((k1A32 .el2 6).condPassed 14 = true ∧ (k1A32 .el2 6).ps.el = .el2 ∧ (k1A32 .el2 6).cfg.haveEL3 = false ∧
      (k1A32 .el2 6).cfg.haveEL2 = true) ∧
    (secure.condPassed 14 = true ∧ secure.ps.el = .el3 ∧ secure.nonSecure = false) ∧
    (el3.condPassed 14 = true ∧ el3.ps.el = .el3 ∧ el3.nonSecure = true ∧ el3.cfg.haveEL2 = true) ∧
    ((k1A32 .el2 6).condPassed 0 = false ∧ (k1A32 .el2 6).cfg.trapFailedCondition = false) ∧
    (atRazwi.hlpRazwi = true ∧ (k1A32 .el2 6).hlpRazwi = false ∧ atRazwi.condPassed 14 = true ∧ atRazwi.ps.el = .el2 ∧
      atRazwi.cfg.haveEL3 = false ∧ answers (exec (.mrcHdcr 14 2) atRazwi) (fun t => t.getX 2 == 0x8000E46)) := by
  decide

/-- The write adds only that EL2 is implemented. -/
theorem witness_HdcrWriteByLevel :
    (k1A32 .el2 6).condPassed 14 = true ∧ (k1A32 .el2 6).ps.el = .el2 ∧ (k1A32 .el2 6).cfg.haveEL3 = false ∧
    (k1A32 .el2 6).cfg.haveEL2 = true ∧
    (atRazwi.hlpRazwi = true ∧ atRazwi.condPassed 14 = true ∧ atRazwi.ps.el = .el2 ∧ atRazwi.cfg.haveEL3 = false ∧
      atRazwi.cfg.haveEL2 = true ∧
      answers (exec (.mcrHdcr 14 1) (atRazwi.setX 1 0xF48)) (fun t => t.ctl.mdcrEl2 == 0x4007F48)) := by decide

theorem witness_MdcrWriteValue :
    (k1 .el2 6).cfg.haveEL2 = true ∧ (k1 .el2 6).mdcrOpen = true ∧ (implMask Config.k1).getLsbD 27 = true ∧
    (implMask Config.k1).getLsbD 0 = true ∧ (k1 .el2 6).cfg.haveSPE = true ∧ (k1 .el2 6).cfg.havePMUv3 = true := by decide

/-- HPMN at both ends of the legal range, and one of the illegal values. -/
theorem witness_MdcrReadValue :
    (k1 .el2 6).cfg.haveEL2 = true ∧ (k1 .el2 6).mdcrOpen = true ∧ (30 : XReg) ≠ 31 ∧
    ¬((k1 .el2 6).cfg.havePMUv3 = true ∧ (k1 .el2 6).pmcrN ≠ 0 ∧
      (((k1 .el2 6).ctl.mdcrEl2.extractLsb' 0 5).toNat = 0 ∨
        (k1 .el2 6).pmcrN < ((k1 .el2 6).ctl.mdcrEl2.extractLsb' 0 5).toNat)) ∧
    (k1 .el2 1).mdcrOpen = true ∧ (k1 .el2 7).mdcrOpen = true ∧ (k1 .el2 7).pmcrN < 7 := by decide

theorem witness_MdcrWithoutEl2 :
    (place cfgNoEl2 .el3 false 0).cfg.haveEL2 = false ∧ (place cfgNoEl2 .el3 false 0).ps.el = .el3 ∧
    (place cfgNoEl2 .el1 false 0).ps.el = .el1 ∧ (place cfgNoEl2 .el0 false 0).ps.el = .el0 ∧
    5 < (place cfgNoEl2 .el3 false 0).pmcrN ∧ (place cfgNoEl2 .el3 true 0).nonSecure = true ∧
    (place cfgNoEl2 .el3 true 0).condPassed 14 = true ∧ (place cfgNoEl2 .el3 true 0).ps.el = .el3 := by decide

theorem witness_ImplementedMask :
    let all := { Config.k1 with haveMTPMU := true }
    let none := { Config.k1 with
      haveMTPMU := false, haveFGT := false, havePMUv3p5 := false, haveTraceFilt := false, havePMUv3p1 := false
      haveSPE := false, havePMUv3 := false }
    (all.haveMTPMU = true ∧ all.haveFGT = true ∧ all.havePMUv3p5 = true ∧ all.haveTraceFilt = true ∧
      all.havePMUv3p1 = true ∧ all.haveSPE = true ∧ all.havePMUv3 = true) ∧
    (none.haveMTPMU = false ∧ none.haveFGT = false ∧ none.havePMUv3p5 = false ∧ none.haveTraceFilt = false ∧
      none.havePMUv3p1 = false ∧ none.haveSPE = false ∧ none.havePMUv3 = false) ∧
    (Config.k1.haveEL2 = true ∧ Config.k1.res0BitsStored = false ∧ (implMask Config.k1).getLsbD 28 = false) := by decide

theorem witness_EffectiveDebugFields :
    (k1 .el2 0x106).cfg.haveEL2 = true ∧ (k1 .el2 0x106).mdcrOpen = true ∧ (0 : XReg) ≠ 31 ∧
    ∃ u, exec (.mrsMdcrEl2 0) (k1 .el2 0x106) = .next u := ⟨by decide, by decide, by decide, _, rfl⟩

/-- At EL1, under EL2. -/
theorem witness_DccRegistersComplete : ∃ (s : State),
    s.dccUserOpen = true ∧ s.dccOpen = true ∧ s.dtrOpen = true :=
  ⟨k1 .el1 4, by decide⟩

/-- At EL1, under EL2. -/
theorem witness_PmuRegistersComplete : ∃ (s : State),
    s.pmuOpen s.cfg.havePMUv3 gateEN none true = true ∧
    s.pmuOpen s.cfg.havePMUv3 gateEN (some (false, 21)) true = true ∧
    s.pmuOpen s.cfg.havePMUv3 gateEN (some (true, 16)) false = true ∧
    s.pmuOpen s.cfg.havePMUv3 gateEN (some (false, 16)) false = true ∧
    s.pmuOpen s.cfg.havePMUv3 gateEN (some (true, 18)) false = true ∧
    s.pmuOpen s.cfg.havePMUv3 gateEN (some (false, 18)) false = true ∧
    s.pmuOpen s.cfg.havePMUv3 gateSW (some (false, 20)) false = true ∧
    s.pmuOpen s.cfg.havePMUv3 gateER (some (true, 19)) false = true ∧
    s.pmuOpen s.cfg.havePMUv3 gateER (some (false, 19)) false = true ∧
    s.pmuOpen s.cfg.havePMUv3 gateEN none false = true ∧
    s.pmuOpen s.cfg.havePMUv3 gateCR (some (true, 15)) false = true ∧
    s.pmuOpen s.cfg.havePMUv3 gateEN (some (false, 15)) false = true ∧
    s.pmuOpen s.cfg.havePMUv3 .open (some (true, 57)) false = true ∧
    s.pmuOpen s.cfg.havePMUv3 .undefinedAtEl0 (some (false, 57)) false = true ∧
    s.pmuOpen s.cfg.havePMUv3 .undefinedAtEl0 (some (true, 17)) false = true ∧
    s.pmuOpen s.cfg.havePMUv3 .undefinedAtEl0 (some (false, 17)) false = true ∧
    s.pmuOpen (s.cfg.havePMUv3 && s.cfg.havePMUv3p4) .undefinedAtEl0 (some (true, 22)) false = true ∧
    s.pmuOpen s.cfg.havePMUv3 gateEN (some (true, 14)) false = true ∧
    s.pmuOpen s.cfg.havePMUv3 gateEN (some (false, 14)) false = true :=
  ⟨k1 .el1 4, by decide⟩

/-- At EL0, under EL2, for the registers that EL0 can reach. -/
theorem witness_PmuRegistersComplete_el0 : ∃ (s : State),
    s.pmuOpen s.cfg.havePMUv3 gateEN none true = true ∧
    s.pmuOpen s.cfg.havePMUv3 gateEN (some (false, 21)) true = true ∧
    s.pmuOpen s.cfg.havePMUv3 gateEN (some (true, 16)) false = true ∧
    s.pmuOpen s.cfg.havePMUv3 gateEN (some (false, 16)) false = true ∧
    s.pmuOpen s.cfg.havePMUv3 gateEN (some (true, 18)) false = true ∧
    s.pmuOpen s.cfg.havePMUv3 gateEN (some (false, 18)) false = true ∧
    s.pmuOpen s.cfg.havePMUv3 gateSW (some (false, 20)) false = true ∧
    s.pmuOpen s.cfg.havePMUv3 gateER (some (true, 19)) false = true ∧
    s.pmuOpen s.cfg.havePMUv3 gateER (some (false, 19)) false = true ∧
    s.pmuOpen s.cfg.havePMUv3 gateEN none false = true ∧
    s.pmuOpen s.cfg.havePMUv3 gateCR (some (true, 15)) false = true ∧
    s.pmuOpen s.cfg.havePMUv3 gateEN (some (false, 15)) false = true ∧
    s.pmuOpen s.cfg.havePMUv3 .open (some (true, 57)) false = true ∧
    s.pmuOpen s.cfg.havePMUv3 gateEN (some (true, 14)) false = true ∧
    s.pmuOpen s.cfg.havePMUv3 gateEN (some (false, 14)) false = true :=
  ⟨k1 .el0 4, by decide⟩

/-- At EL1, the last breakpoint and watchpoint. -/
theorem witness_DebugRegistersComplete : ∃ (s : State) (n : BitVec 4),
    s.tdaOpen true 4 = true ∧ s.redirectAny = false ∧ s.tdaOpen false 4 = true ∧ s.tdaOpen true 10 = true ∧
    s.tdaOpen false 10 = true ∧ s.breakOpen true 1 n s.cfg.breakpoints = true ∧
    s.breakOpen false 1 n s.cfg.breakpoints = true ∧ s.breakOpen true 0 n s.cfg.breakpoints = true ∧
    s.breakOpen false 0 n s.cfg.breakpoints = true ∧ s.breakOpen true 3 n s.cfg.watchpoints = true ∧
    s.breakOpen false 3 n s.cfg.watchpoints = true ∧ s.breakOpen true 2 n s.cfg.watchpoints = true ∧
    s.breakOpen false 2 n s.cfg.watchpoints = true ∧ s.tdaOpen true 5 = true ∧ s.tdaOpen false 5 = true ∧
    s.tdaOpen true 6 = true ∧ s.mdrarOpen = true ∧ s.tdosaOpen false 8 = true ∧ s.tdosaOpen true 9 = true ∧
    s.osdlrOpen true = true ∧ s.osdlrOpen false = true ∧ s.tdosaOpen true 7 = true ∧ s.tdosaOpen false 7 = true :=
  ⟨k1 .el1 4, 15, by decide⟩

/-- The only breakpoint and watchpoint. -/
theorem witness_DebugRegistersComplete_first : ∃ (s : State) (n : BitVec 4),
    s.breakOpen true 1 n s.cfg.breakpoints = true ∧ s.breakOpen false 1 n s.cfg.breakpoints = true ∧
    s.breakOpen true 0 n s.cfg.breakpoints = true ∧ s.breakOpen false 0 n s.cfg.breakpoints = true ∧
    s.breakOpen true 3 n s.cfg.watchpoints = true ∧ s.breakOpen false 3 n s.cfg.watchpoints = true ∧
    s.breakOpen true 2 n s.cfg.watchpoints = true ∧ s.breakOpen false 2 n s.cfg.watchpoints = true :=
  ⟨place { Config.k1 with breakpoints := 1, watchpoints := 1 } .el1 false 4, 0, by decide⟩

/-- At EL1, the last counter below HPMN. -/
theorem witness_CounterRegistersComplete : ∃ (s : State) (n : BitVec 5),
    s.pmuOpen s.cfg.havePMUv3 gateEN (some (true, 13)) false = true ∧ s.counterOpen s.pmselrSel = true ∧
    s.pmuOpen s.cfg.havePMUv3 gateEN (some (false, 13)) false = true ∧
    s.pmuOpen s.cfg.havePMUv3 gateER (some (true, 12)) false = true ∧
    s.pmuOpen s.cfg.havePMUv3 gateEN (some (false, 12)) false = true ∧ s.counterOpen n.toNat = true :=
  ⟨withSelr (k1 .el1 4) 3, 3, by decide⟩

/-- At EL2, the last counter. -/
theorem witness_CounterRegistersComplete_el2 : ∃ (s : State) (n : BitVec 5),
    s.pmuOpen s.cfg.havePMUv3 gateEN (some (true, 13)) false = true ∧ s.counterOpen s.pmselrSel = true ∧
    s.pmuOpen s.cfg.havePMUv3 gateEN (some (false, 13)) false = true ∧
    s.pmuOpen s.cfg.havePMUv3 gateER (some (true, 12)) false = true ∧
    s.pmuOpen s.cfg.havePMUv3 gateEN (some (false, 12)) false = true ∧ s.counterOpen n.toNat = true :=
  ⟨withSelr (k1 .el2 4) 5, 5, by decide⟩

/-- SEL = 31, at EL0. -/
theorem witness_CounterRegistersComplete_filter : ∃ (s : State),
    s.pmselrSel = 31 ∧ s.pmuOpen s.cfg.havePMUv3 gateEN (some (true, 13)) false = true ∧
    s.pmuOpen s.cfg.havePMUv3 gateEN (some (false, 13)) false = true :=
  ⟨withSelr (k1 .el0 4) 31, by decide⟩

/-- At EL1 with E2PB = 0b11. -/
theorem witness_ProfilingRegistersComplete : ∃ (s : State),
    s.speOpen s.tpms true 26 = true ∧ s.redirectAll = false ∧ s.speOpen s.tpms false 26 = true ∧
    s.speOpen s.tpms true 29 = true ∧ s.redirectAny = false ∧ s.speOpen s.tpms false 29 = true ∧
    s.speOpen s.tpms true 31 = true ∧ s.speOpen s.tpms false 31 = true ∧ s.speOpen s.tpms true 28 = true ∧
    s.speOpen s.tpms false 28 = true ∧ s.speOpen s.tpms true 27 = true ∧ s.speOpen s.tpms false 27 = true ∧
    s.speOpen s.tpms true 32 = true ∧ s.speOpen s.tpms false 32 = true ∧ s.speOpen s.tpms true 30 = true ∧
    s.speOpen (!s.e2pb.getLsbD 0) true 23 = true ∧ s.speOpen (!s.e2pb.getLsbD 0) false 23 = true ∧
    s.speOpen (!s.e2pb.getLsbD 0) true 24 = true ∧ s.speOpen (!s.e2pb.getLsbD 0) false 24 = true ∧
    s.speOpen (!s.e2pb.getLsbD 0) true 25 = true ∧ s.speOpen (!s.e2pb.getLsbD 0) false 25 = true ∧
    s.cfg.haveSPE = true ∧ s.ps.el ≠ .el0 ∧ s.trfcrOpen true = true ∧ s.trfcrOpen false = true :=
  ⟨k1 .el1 0x3004, by decide⟩

/-- At EL1, the last breakpoint and watchpoint. -/
theorem witness_DebugRegisters32Complete : ∃ (s : State) (c : Cond) (n : BitVec 4),
    s.condPassed c = true ∧ s.tda32Open = true ∧ n.toNat < s.cfg.breakpoints ∧ n.toNat < s.cfg.watchpoints ∧
    s.tdosa32Open false = true ∧ s.tdosa32Open true = true ∧ s.trfcr32Open = true :=
  ⟨k1A32 .el1 4, 14, 15, by decide⟩

theorem witness_DccRegisters32Complete : ∃ (s : State) (c : Cond),
    s.condPassed c = true ∧ s.dcc32UserOpen false = true ∧ s.dcc32UserOpen true = true ∧ s.dtr32Open = true ∧
    s.dcc32Open = true ∧ s.tdra32Open = true :=
  ⟨k1A32 .el1 4, 1, by decide⟩

/-- At EL2. -/
theorem witness_DccRegisters32Complete_el2 : ∃ (s : State) (c : Cond),
    s.condPassed c = true ∧ s.ps.el = .el2 ∧ s.dcc32UserOpen false = true ∧ s.dcc32UserOpen true = true ∧
    s.dtr32Open = true ∧ s.dcc32Open = true ∧ s.tdra32Open = true :=
  ⟨k1A32 .el2 4, 14, by decide⟩

/-- At EL3. -/
theorem witness_DccRegisters32Complete_el3 : ∃ (s : State) (c : Cond),
    s.condPassed c = true ∧ s.ps.el = .el3 ∧ s.dcc32UserOpen false = true ∧ s.dcc32UserOpen true = true ∧
    s.dtr32Open = true ∧ s.dcc32Open = true ∧ s.tdra32Open = true :=
  ⟨monitorCtl .el3 0, 14, by decide⟩

/-- At EL0, the registers that EL0 can reach. -/
theorem witness_DccRegisters32Complete_el0 : ∃ (s : State) (c : Cond),
    s.condPassed c = true ∧ s.ps.el = .el0 ∧ s.dcc32UserOpen false = true ∧ s.dcc32UserOpen true = true ∧
    s.dtr32Open = true ∧ s.tdra32Open = true :=
  ⟨k1A32 .el0 4, 14, by decide⟩

theorem witness_PmuRegisters32Complete : ∃ (s : State) (c : Cond),
    s.condPassed c = true ∧ s.pmu32Open s.cfg.havePMUv3 gateEN true none true = true ∧
    s.pmu32Open s.cfg.havePMUv3 gateEN true (some (false, 21)) true = true ∧
    s.pmu32Open s.cfg.havePMUv3 gateEN true (some (true, 16)) false = true ∧
    s.pmu32Open s.cfg.havePMUv3 gateEN true (some (false, 16)) false = true ∧
    s.pmu32Open s.cfg.havePMUv3 gateEN true (some (true, 18)) false = true ∧
    s.pmu32Open s.cfg.havePMUv3 gateEN true (some (false, 18)) false = true ∧
    s.pmu32Open s.cfg.havePMUv3 gateSW true (some (false, 20)) false = true ∧
    s.pmu32Open s.cfg.havePMUv3 gateER true (some (true, 19)) false = true ∧
    s.pmu32Open s.cfg.havePMUv3 gateER true (some (false, 19)) false = true ∧
    s.pmu32Open s.cfg.havePMUv3 gateEN true none false = true ∧
    s.pmu32Open (s.cfg.havePMUv3 && s.cfg.havePMUv3p1) gateEN true none false = true ∧
    s.pmu32Open s.cfg.havePMUv3 gateCR true (some (true, 15)) false = true ∧
    s.pmu32Open s.cfg.havePMUv3 gateEN true (some (false, 15)) false = true ∧
    s.pmu32Open s.cfg.havePMUv3 .open true (some (true, 57)) false = true ∧
    s.pmu32Open s.cfg.havePMUv3 .undefinedAtEl0 true (some (false, 57)) false = true ∧
    s.pmu32Open s.cfg.havePMUv3 .undefinedAtEl0 true (some (true, 17)) false = true ∧
    s.pmu32Open s.cfg.havePMUv3 .undefinedAtEl0 true (some (false, 17)) false = true ∧
    s.pmu32Open (s.cfg.havePMUv3 && s.cfg.havePMUv3p4) .undefinedAtEl0 true (some (true, 22)) false = true ∧
    s.pmu32Open s.cfg.havePMUv3 gateEN false (some (true, 14)) false = true ∧
    s.pmu32Open s.cfg.havePMUv3 gateEN false (some (false, 14)) false = true :=
  ⟨k1A32 .el1 4, 14, by decide⟩

/-- At EL1, the last counter below HPMN. -/
theorem witness_CounterRegisters32Complete : ∃ (s : State) (c : Cond) (n : BitVec 5),
    s.condPassed c = true ∧ s.pmu32Open s.cfg.havePMUv3 gateEN true (some (true, 13)) false = true ∧
    s.counterOpen s.pmselrSel = true ∧ s.pmu32Open s.cfg.havePMUv3 gateEN true (some (false, 13)) false = true ∧
    s.pmu32Open s.cfg.havePMUv3 gateER true (some (true, 12)) false = true ∧
    s.pmu32Open s.cfg.havePMUv3 gateEN true (some (false, 12)) false = true ∧
    s.pmu32Open s.cfg.havePMUv3 gateER false (some (true, 12)) false = true ∧ s.counterOpen n.toNat = true ∧
    s.pmu32Open s.cfg.havePMUv3 gateEN false (some (false, 12)) false = true ∧
    s.pmu32Open s.cfg.havePMUv3 gateEN false (some (true, 13)) false = true ∧
    s.pmu32Open s.cfg.havePMUv3 gateEN false (some (false, 13)) false = true :=
  ⟨withSelr (k1A32 .el1 4) 3, 14, 3, by decide⟩

/-- SEL = 31. -/
theorem witness_CounterRegisters32Complete_filter : ∃ (s : State) (c : Cond),
    s.condPassed c = true ∧ s.pmselrSel = 31 ∧
    s.pmu32Open s.cfg.havePMUv3 gateEN true (some (true, 13)) false = true ∧
    s.pmu32Open s.cfg.havePMUv3 gateEN true (some (false, 13)) false = true :=
  ⟨withSelr (k1A32 .el1 4) 31, 14, by decide⟩

theorem witness_TransferInstructionsComplete : ∃ (s : State) (c : Cond),
    s.condPassed c = true ∧ s.tdra32Open = true ∧
    s.pmu32Open s.cfg.havePMUv3 gateCR true (some (true, 15)) false = true ∧
    s.pmu32Open s.cfg.havePMUv3 gateEN true (some (false, 15)) false = true ∧ s.dtr32Open = true :=
  ⟨k1A32 .el1 4, 14, by decide⟩

/-- HCR_EL2.<NV2,NV1,NV> = 0b111. -/
theorem witness_NestedVirtualizationGoesToMemory : ∃ (s : State),
    s.redirectAny = true ∧ s.tdaOpen true 4 = true ∧ s.tdaOpen false 4 = true ∧ s.redirectAll = true ∧
    s.speOpen s.tpms true 26 = true ∧ s.speOpen s.tpms false 26 = true ∧ s.speOpen s.tpms true 29 = true ∧
    s.speOpen s.tpms false 29 = true ∧ s.speOpen s.tpms true 31 = true ∧ s.speOpen s.tpms false 31 = true ∧
    s.speOpen s.tpms true 27 = true ∧ s.speOpen s.tpms false 27 = true ∧ s.speOpen s.tpms true 32 = true ∧
    s.speOpen s.tpms false 32 = true ∧ s.speOpen (!s.e2pb.getLsbD 0) true 23 = true ∧
    s.speOpen (!s.e2pb.getLsbD 0) false 23 = true ∧ s.speOpen (!s.e2pb.getLsbD 0) true 24 = true ∧
    s.speOpen (!s.e2pb.getLsbD 0) false 24 = true ∧ s.speOpen (!s.e2pb.getLsbD 0) true 25 = true ∧
    s.speOpen (!s.e2pb.getLsbD 0) false 25 = true ∧ s.trfcrOpen true = true ∧ s.trfcrOpen false = true :=
  ⟨withHcr (place cfgNv .el1 false 0x3004) 0x2C0000000000, by decide⟩

/-- CurrentEL: NV = 1 at EL1 with EL2 enabled and with EL2 not enabled, NV = 0, and EL2. -/
theorem witness_NestedVirtualizationGoesToMemory_currentEL :
    let on := withHcr (place cfgNv .el1 false 6) 0x40000000000
    let off := withScr (withHcr (place { cfgNv with haveEL3 := true } .el1 false 6) 0x40000000000) 0
    (on.cfg.haveNV = true ∧ on.ps.el = .el1 ∧ on.ctl.hcrEl2.getLsbD 42 = true ∧ on.el2Enabled = true) ∧
    (off.cfg.haveNV = true ∧ off.ps.el = .el1 ∧ off.ctl.hcrEl2.getLsbD 42 = true ∧ off.el2Enabled = false) ∧
    (place cfgNv .el1 false 6).ctl.hcrEl2.getLsbD 42 = false ∧ (place cfgNv .el2 false 6).ps.el ≠ .el1 := by decide

theorem witness_TdccTraps : ∃ (s : State),
    s.a64EL2 = true ∧ s.tdcc = true ∧ s.ps.el = .el1 ∧ s.inp.halted = false :=
  ⟨k1 .el1 0x8000000, by decide⟩

theorem witness_TdccTraps_el0 : ∃ (s : State),
    s.a64EL2 = true ∧ s.tdcc = true ∧ s.ps.el = .el0 ∧ s.udccDis = false ∧ s.inp.halted = false :=
  ⟨k1 .el0 0x8000000, by decide⟩

theorem witness_DebugRegisterTraps : ∃ (s : State) (n : BitVec 4),
    s.a64EL2 = true ∧ s.ps.el = .el1 ∧ (s.tde || s.tda) = true ∧ s.inp.halted = false ∧
    n.toNat < s.cfg.breakpoints ∧ n.toNat < s.cfg.watchpoints ∧ (s.tde || s.tdra) = true ∧
    (s.tde || s.tdosa) = true ∧ (s.cfg.haveDoubleLock || s.cfg.tdosaTrapsOsdlr) = true :=
  ⟨k1 .el1 0xE00, 15, by decide⟩

theorem witness_DebugRegisterTraps_tde : ∃ (s : State) (n : BitVec 4),
    s.a64EL2 = true ∧ s.ps.el = .el1 ∧ (s.tde || s.tda) = true ∧ s.inp.halted = false ∧
    n.toNat < s.cfg.breakpoints ∧ n.toNat < s.cfg.watchpoints ∧ (s.tde || s.tdra) = true ∧
    (s.tde || s.tdosa) = true ∧ (s.cfg.haveDoubleLock || s.cfg.tdosaTrapsOsdlr) = true :=
  ⟨k1 .el1 0x100, 0, by decide⟩

theorem witness_DebugRegisterTraps_el0 : ∃ (s : State),
    s.a64EL2 = true ∧ s.ps.el = .el0 ∧ (s.tge || s.tde || s.tda) = true ∧ s.udccDis = false ∧ s.inp.halted = false :=
  ⟨k1 .el0 0x200, by decide⟩

theorem witness_PmuTraps : ∃ (s : State) (n : BitVec 5),
    s.a64EL2 = true ∧ s.cfg.havePMUv3 = true ∧ s.ps.el = .el1 ∧ s.tpm = true ∧ s.counterOpen s.pmselrSel = true ∧
    s.cfg.havePMUv3p4 = true ∧ s.counterOpen n.toNat = true ∧ s.tpmcr = true :=
  ⟨withSelr (k1 .el1 0x64) 3, 0, by decide⟩

theorem witness_PmuTraps_el0 : ∃ (s : State) (n : BitVec 5),
    s.a64EL2 = true ∧ s.cfg.havePMUv3 = true ∧ s.ps.el = .el0 ∧ s.tpm = true ∧ s.gateClosed gateEN = false ∧
    s.gateClosed gateSW = false ∧ s.gateClosed gateER = false ∧ s.gateClosed gateCR = false ∧
    s.counterOpen s.pmselrSel = true ∧ s.counterOpen n.toNat = true ∧ s.tpmcr = true :=
  ⟨withSelr (k1 .el0 0x64) 0, 3, by decide⟩

theorem witness_ProfilingTraps : ∃ (s : State),
    s.a64EL2 = true ∧ s.ps.el = .el1 ∧ s.cfg.haveSPE = true ∧ s.tpms = true ∧ s.e2pb.getLsbD 0 = false ∧
    s.cfg.haveTraceFilt = true ∧ s.ttrf = true :=
  ⟨k1 .el1 0x86004, by decide⟩

theorem witness_DebugTraps32 : ∃ (s : State) (c : Cond) (n : BitVec 4),
    s.ps.el = .el1 ∧ s.el2Enabled = true ∧ s.condPassed c = true ∧ (s.tdcc || s.tde || s.tda) = true ∧
    s.inp.halted = false ∧ (s.tde || s.tda) = true ∧ n.toNat < s.cfg.breakpoints ∧ n.toNat < s.cfg.watchpoints ∧
    (s.tde || s.tdra) = true ∧ (s.tde || s.tdosa) = true ∧ (s.cfg.haveDoubleLock || s.cfg.tdosaTrapsOsdlr) = true :=
  ⟨k1A32 .el1 0xE00, 14, 15, by decide⟩

theorem witness_DebugTraps32_tde : ∃ (s : State) (c : Cond) (n : BitVec 4),
    s.ps.el = .el1 ∧ s.el2Enabled = true ∧ s.condPassed c = true ∧ (s.tdcc || s.tde || s.tda) = true ∧
    s.inp.halted = false ∧ (s.tde || s.tda) = true ∧ n.toNat < s.cfg.breakpoints ∧ n.toNat < s.cfg.watchpoints ∧
    (s.tde || s.tdra) = true ∧ (s.tde || s.tdosa) = true ∧ (s.cfg.haveDoubleLock || s.cfg.tdosaTrapsOsdlr) = true :=
  ⟨{ k1A32 .el1 0x100 with inp := { (k1A32 .el1 0).inp with el2A32 := true } }, 14, 0, by decide⟩

theorem witness_PmuAndTraceTraps32 : ∃ (s : State) (c : Cond),
    s.ps.el = .el1 ∧ s.el2Enabled = true ∧ s.condPassed c = true ∧ s.cfg.havePMUv3 = true ∧ s.tpm = true ∧
    s.cfg.havePMUv3p1 = true ∧ s.cfg.havePMUv3p4 = true ∧ s.tpmcr = true ∧ s.cfg.haveTraceFilt = true ∧
    s.nonSecure = true ∧ s.ttrf = true :=
  ⟨k1A32 .el1 0x80064, 14, by decide⟩

/-- Just above the last counter. -/
theorem witness_HpmnRangeCheck_undefined : ∃ (s : State) (n : BitVec 5),
    s.cfg.havePMUv3 = true ∧ s.cfg.haveFGT = true ∧ s.a64EL2 = true ∧ s.ps.el = .el1 ∧ s.fgt1 true 12 = false ∧
    s.fgt1 false 12 = false ∧ s.fgt1 true 13 = false ∧ s.fgt1 false 13 = false ∧ s.pmselrSel ≠ 31 ∧
    s.pmcrN ≤ s.pmselrSel ∧ s.pmcrN ≤ n.toNat :=
  ⟨withSelr (k1 .el1 4) 6, 6, by decide⟩

/-- The largest numbers. -/
theorem witness_HpmnRangeCheck_undefined_el0 : ∃ (s : State) (n : BitVec 5),
    s.cfg.havePMUv3 = true ∧ s.cfg.haveFGT = true ∧ s.a64EL2 = true ∧
    s.ps.el = .el0 ∧ s.gateClosed gateER = false ∧ s.gateClosed gateEN = false ∧ s.fgt0 true 12 = false ∧
    s.fgt0 false 12 = false ∧ s.fgt0 true 13 = false ∧ s.fgt0 false 13 = false ∧ s.pmselrSel ≠ 31 ∧
    s.pmcrN ≤ s.pmselrSel ∧ s.pmcrN ≤ n.toNat :=
  ⟨withSelr (k1 .el0 4) 30, 31, by decide⟩

/-- HPMN itself, and the last counter. -/
theorem witness_HpmnRangeCheck_trap : ∃ (s : State) (n : BitVec 5),
    s.cfg.havePMUv3 = true ∧ s.cfg.haveFGT = true ∧ s.a64EL2 = true ∧ s.ps.el = .el1 ∧ s.fgt1 true 12 = false ∧
    s.fgt1 false 12 = false ∧ s.fgt1 true 13 = false ∧ s.fgt1 false 13 = false ∧ s.pmselrSel ≠ 31 ∧
    s.hpmnLegal = true ∧ s.hpmn ≤ s.pmselrSel ∧ s.pmselrSel < s.pmcrN ∧ s.hpmn ≤ n.toNat ∧ n.toNat < s.pmcrN :=
  ⟨withSelr (k1 .el1 4) 4, 5, by decide⟩

theorem witness_HpmnRangeCheck_trap_el0 : ∃ (s : State) (n : BitVec 5),
    s.cfg.havePMUv3 = true ∧ s.cfg.haveFGT = true ∧ s.a64EL2 = true ∧
    s.ps.el = .el0 ∧ s.gateClosed gateER = false ∧ s.gateClosed gateEN = false ∧ s.fgt0 true 12 = false ∧
    s.fgt0 false 12 = false ∧ s.fgt0 true 13 = false ∧ s.fgt0 false 13 = false ∧ s.pmselrSel ≠ 31 ∧
    s.hpmnLegal = true ∧ s.hpmn ≤ s.pmselrSel ∧ s.pmselrSel < s.pmcrN ∧ s.hpmn ≤ n.toNat ∧ n.toNat < s.pmcrN :=
  ⟨withSelr (k1 .el0 4) 5, 4, by decide⟩

/-- AArch32 at EL0, under an EL1 using AArch64: every access to a counter, the number just above the last counter, the
largest one, HPMN itself and the last counter. -/
theorem witness_HpmnRangeCheck_a32 :
    let s (k : Word) := withSelr { k1A32 .el0 4 with inp := (k1 .el0 0).inp } k
    let open32 (k : Word) (n : BitVec 5) := ((s k).pmuAccesses32 14 0 1 n).all fun a =>
      a.counter.isNone || ((s k).gateOpen a && !(s k).t9Trap a && !(s k).fineTrap a)
    ((s 0).cfg.havePMUv3 = true ∧ (s 0).cfg.haveFGT = true ∧ (s 0).a64EL2 = true ∧ (s 0).condPassed 14 = true ∧
      (s 0).ps.el = .el0 ∧ (s 0).hpmnLegal = true ∧ (s 0).hpmn = 4 ∧ (s 0).pmcrN = 6) ∧
    open32 6 30 = true ∧ open32 30 6 = true ∧ open32 4 5 = true ∧ open32 5 4 = true := by decide

/-- HPMN itself and the last counter, at EL1 without ARMv8.6-FGT. -/
theorem witness_InaccessibleCounterChoices : ∃ (s : State) (n : BitVec 5),
    (s.cfg.haveFGT && s.a64EL2 && s.atGuestLevel) = false ∧ s.hpmnPlain = true ∧ s.pmselrSel ≠ 31 ∧
    s.accessible .accessLimit s.pmselrSel = false ∧ s.accessible .accessLimit n.toNat = false ∧
    s.pmuOpen s.cfg.havePMUv3 gateER (some (true, 12)) false = true ∧
    s.pmuOpen s.cfg.havePMUv3 gateEN (some (false, 12)) false = true ∧
    s.pmuOpen s.cfg.havePMUv3 gateEN (some (true, 13)) false = true ∧
    s.pmuOpen s.cfg.havePMUv3 gateEN (some (false, 13)) false = true :=
  ⟨withSelr (place { Config.k1 with haveFGT := false } .el1 false 4) 5, 4, by decide⟩

/-- The same at EL0, and the largest number. -/
theorem witness_InaccessibleCounterChoices_el0 : ∃ (s : State) (n : BitVec 5),
    (s.cfg.haveFGT && s.a64EL2 && s.atGuestLevel) = false ∧ s.hpmnPlain = true ∧ s.pmselrSel ≠ 31 ∧
    s.accessible .accessLimit s.pmselrSel = false ∧ s.accessible .accessLimit n.toNat = false ∧
    s.pmuOpen s.cfg.havePMUv3 gateER (some (true, 12)) false = true ∧
    s.pmuOpen s.cfg.havePMUv3 gateEN (some (false, 12)) false = true ∧
    s.pmuOpen s.cfg.havePMUv3 gateEN (some (true, 13)) false = true ∧
    s.pmuOpen s.cfg.havePMUv3 gateEN (some (false, 13)) false = true :=
  ⟨withSelr (place { Config.k1 with haveFGT := false } .el0 false 4) 4, 30, by decide⟩

/-- Counters that do not exist, at EL2. -/
theorem witness_InaccessibleCounterChoices_el2 : ∃ (s : State) (n : BitVec 5),
    (s.cfg.haveFGT && s.a64EL2 && s.atGuestLevel) = false ∧ s.hpmnPlain = true ∧ s.pmselrSel ≠ 31 ∧
    s.accessible .accessLimit s.pmselrSel = false ∧ s.accessible .accessLimit n.toNat = false ∧
    s.pmuOpen s.cfg.havePMUv3 gateER (some (true, 12)) false = true ∧
    s.pmuOpen s.cfg.havePMUv3 gateEN (some (false, 12)) false = true ∧
    s.pmuOpen s.cfg.havePMUv3 gateEN (some (true, 13)) false = true ∧
    s.pmuOpen s.cfg.havePMUv3 gateEN (some (false, 13)) false = true :=
  ⟨withSelr (k1 .el2 4) 30, 6, by decide⟩

/-- AArch32 at EL1. -/
theorem witness_InaccessibleCounterChoices_a32 : ∃ (s : State) (c : Cond) (n : BitVec 5),
    (s.cfg.haveFGT && s.a64EL2 && decide (s.ps.el = .el0)) = false ∧ s.condPassed c = true ∧ s.hpmnPlain = true ∧
    s.pmselrSel ≠ 31 ∧ s.accessible .accessLimit s.pmselrSel = false ∧ s.accessible .accessLimit n.toNat = false ∧
    s.pmu32Open s.cfg.havePMUv3 gateER true (some (true, 12)) false = true ∧
    s.pmu32Open s.cfg.havePMUv3 gateEN true (some (false, 12)) false = true ∧
    s.pmu32Open s.cfg.havePMUv3 gateEN true (some (true, 13)) false = true ∧
    s.pmu32Open s.cfg.havePMUv3 gateEN true (some (false, 13)) false = true ∧
    s.pmu32Open s.cfg.havePMUv3 gateER false (some (true, 12)) false = true ∧
    s.pmu32Open s.cfg.havePMUv3 gateEN false (some (false, 12)) false = true ∧
    s.pmu32Open s.cfg.havePMUv3 gateEN false (some (true, 13)) false = true ∧
    s.pmu32Open s.cfg.havePMUv3 gateEN false (some (false, 13)) false = true :=
  ⟨withSelr (k1A32 .el1 4) 5, 14, 4, by decide⟩

/-- AArch32 at EL0 without ARMv8.6-FGT. -/
theorem witness_InaccessibleCounterChoices_a32_el0 : ∃ (s : State) (c : Cond) (n : BitVec 5),
    (s.cfg.haveFGT && s.a64EL2 && decide (s.ps.el = .el0)) = false ∧ s.condPassed c = true ∧ s.hpmnPlain = true ∧
    s.pmselrSel ≠ 31 ∧ s.accessible .accessLimit s.pmselrSel = false ∧ s.accessible .accessLimit n.toNat = false ∧
    s.pmu32Open s.cfg.havePMUv3 gateER true (some (true, 12)) false = true ∧
    s.pmu32Open s.cfg.havePMUv3 gateEN true (some (false, 12)) false = true ∧
    s.pmu32Open s.cfg.havePMUv3 gateEN true (some (true, 13)) false = true ∧
    s.pmu32Open s.cfg.havePMUv3 gateEN true (some (false, 13)) false = true ∧
    s.pmu32Open s.cfg.havePMUv3 gateER false (some (true, 12)) false = true ∧
    s.pmu32Open s.cfg.havePMUv3 gateEN false (some (false, 12)) false = true ∧
    s.pmu32Open s.cfg.havePMUv3 gateEN false (some (true, 13)) false = true ∧
    s.pmu32Open s.cfg.havePMUv3 gateEN false (some (false, 13)) false = true :=
  ⟨withSelr (place { Config.k1 with haveFGT := false } .el0 true 4) 4, 14, 30, by decide⟩

theorem witness_ControlsAtEl0 : ∃ (s : State),
    s.ps.el = .el0 ∧ s.inp.el1A32 = false ∧ s.udccDis = true ∧ s.inp.halted = false :=
  ⟨withMdscr (k1 .el0 4) 0x1000, by decide⟩

theorem witness_ControlsAtEl0_gates : ∃ (s : State),
    s.cfg.havePMUv3 = true ∧ s.ps.el = .el0 ∧ s.gateClosed gateEN = true ∧ s.gateClosed gateSW = true ∧
    s.gateClosed gateER = true ∧ s.gateClosed gateCR = true :=
  ⟨withUserenr (k1 .el0 4) 0, by decide⟩

/-! The further clauses of the trap statements: EL3 and Monitor mode, the fine-grained traps, the halt, EL0 in AArch32
state, and what does not exist. -/

/-- MDCR_EL3.TDCC at EL2, MDCR_EL3.TDA at EL1, both at EL0; a PE in Debug state. -/
theorem witness_TdccTraps_el3 :
    let a := el3Ctl .el2 false 0x8000000
    let b := el3Ctl .el1 false 0x200
    let c := el3Ctl .el0 false 0x8000200
    (a.a64EL3 = true ∧ (a.tdcc3 || a.tda3) = true ∧ a.ps.el = .el2) ∧
    (b.a64EL3 = true ∧ (b.tdcc3 || b.tda3) = true ∧ b.ps.el = .el1 ∧
      (b.a64EL2 && (b.tdcc || b.tde || b.tda)) = false) ∧
    (c.a64EL3 = true ∧ (c.tdcc3 || c.tda3) = true ∧ c.ps.el = .el0 ∧ (!c.inp.el1A32 && c.udccDis) = false ∧
      (c.a64EL2 && (c.tge || c.tdcc || c.tde || c.tda)) = false) ∧
    ((halted a).inp.halted = true ∧ (halted a).a64EL3 = true) := by decide

/-- The last breakpoint and watchpoint, and the first. -/
theorem witness_DebugRegisterTraps_fine (n : BitVec 4) :
    let s := withHdfg (k1 .el1 6) 0xFFF
    s.ps.el = .el1 ∧ s.cfg.haveDoubleLock = true ∧ n.toNat < s.cfg.breakpoints ∧ n.toNat < s.cfg.watchpoints ∧
    ∀ a ∈ tdaAccesses 0 ++ osAccesses 0 ++ osdlrAccesses 0 ++ breakAccesses n 0 ++ watchAccesses n 0,
      s.fgt1 a.read a.bit = true := by
  revert n; decide

/-- At EL2 and at EL1; OSDLR_EL1 with DoubleLock, and without it but with the parameter. -/
theorem witness_DebugRegisterTraps_el3 :
    let a := el3Ctl .el2 false 0x600
    let b := el3Ctl .el1 false 0x600
    let c := withMdcr3 (place { cfgEl3 with haveDoubleLock := false, mdcrEl3TdosaTrapsOsdlr := true } .el1 false 6) 0x400
    (a.a64EL3 = true ∧ a.tda3 = true ∧ a.tdosa3 = true ∧ a.ps.el = .el2) ∧
    (b.a64EL3 = true ∧ b.tda3 = true ∧ b.tdosa3 = true ∧ b.ps.el = .el1 ∧ b.fgtOn = false ∧
      (b.a64EL2 && (b.tde || b.tda || b.tdra || b.tdosa)) = false ∧ b.cfg.haveDoubleLock = true ∧
      (15 : BitVec 4).toNat < b.cfg.breakpoints ∧ (15 : BitVec 4).toNat < b.cfg.watchpoints) ∧
    (c.a64EL3 = true ∧ c.tdosa3 = true ∧ c.cfg.haveDoubleLock = false ∧ c.cfg.mdcrEl3TdosaTrapsOsdlr = true ∧
      c.ps.el = .el1 ∧ (c.a64EL2 && (c.tde || c.tdosa) && (c.cfg.haveDoubleLock || c.cfg.tdosaTrapsOsdlr)) = false) := by
  decide

/-- The halt at each level, and a PE with one breakpoint and one watchpoint. -/
theorem witness_DebugRegisterTraps_halt :
    let s (el : EL) :=
      let r := el3Ctl el false 0
      { r with inp := { r.inp with haltingAllowed := true }, dbg := { r.dbg with edscr := 0x200000, oslsr := 0 } }
    let one := place { Config.k1 with breakpoints := 1, watchpoints := 1 } .el1 false 6
    ((s .el1).inp.el1A32 = false ∧ (s .el1).dbg.oslsr.getLsbD 1 = false ∧ (s .el1).inp.haltingAllowed = true ∧
      (s .el1).dbg.edscr.getLsbD 21 = true ∧ (15 : BitVec 4).toNat < (s .el1).cfg.breakpoints ∧
      (15 : BitVec 4).toNat < (s .el1).cfg.watchpoints) ∧
    ((s .el1).ps.el = .el1 ∧ (s .el1).fgtOn = false ∧ ((s .el1).tde || (s .el1).tda || (s .el1).tda3) = false) ∧
    ((s .el2).ps.el = .el2 ∧ (s .el2).tda3 = false) ∧ (s .el3).ps.el = .el3 ∧
    (one.cfg.breakpoints ≤ (1 : BitVec 4).toNat ∧ one.cfg.watchpoints ≤ (1 : BitVec 4).toNat ∧
      (0 : BitVec 4).toNat < one.cfg.breakpoints) := by decide

/-- Every register that has a fine-grained bit; MDCR_EL3.TPM where nothing before it stops the access; and a PE
without the Performance Monitors. -/
theorem witness_PmuTraps_further :
    let f (el : EL) := withHdfg (k1 el 6) 0x2000000007FF000
    let c (el : EL) := withSelr (el3Ctl el false 0x40) 5
    let fine (el : EL) := ((f el).pmuAccesses 0 30).all fun a =>
      a.fgt.isNone || (el == .el0 && a.gate == .undefinedAtEl0) || (a.present && (f el).gateOpen a && (f el).fineTrap a)
    let quiet (el : EL) := ((c el).pmuAccesses 0 5).all fun a =>
      (el == .el0 && a.gate == .undefinedAtEl0) || (a.present && (c el).gateOpen a && (c el).el2Quiet a)
    let none := place { Config.k1 with havePMUv3 := false } .el1 false 6
    (fine .el1 = true ∧ fine .el0 = true) ∧
    (quiet .el0 = true ∧ quiet .el1 = true ∧ quiet .el2 = true ∧ (c .el2).a64EL3 = true ∧ (c .el2).tpm3 = true) ∧
    (none.pmuAccesses 0 0).all (fun a => !a.present) = true := by decide

/-- Fine-grained traps; NSPB in Non-secure and in Secure state, at EL2 and at EL1; TTRF; EL0; no feature. -/
theorem witness_ProfilingTraps_further :
    let f := withHdfg (k1 .el1 6) 0x20001FF800000
    let ns (el : EL) := withMdcr3 (place cfgEl3 el false 0x1006) 0x82000
    let secure := withScr (ns .el1) 0
    let none := place { Config.k1 with haveSPE := false, haveTraceFilt := false } .el1 false 6
    (f.cfg.haveSPE = true ∧ f.ps.el = .el1 ∧ f.cfg.haveTraceFilt = true ∧ f.fgt1 false 49 = true ∧
      ∀ a ∈ profilingAccesses 0 ++ bufferAccesses 0, f.fgt1 a.read a.bit = true) ∧
    ((ns .el2).nspbTraps ∧ (ns .el2).ps.el = .el2 ∧ (ns .el2).ttrf3 = true ∧ (ns .el2).a64EL3 = true) ∧
    ((ns .el1).nspbTraps ∧ (ns .el1).ps.el = .el1 ∧ (ns .el1).ttrf3 = true ∧ (ns .el1).fgtOn = false ∧
      ((ns .el1).a64EL2 && (ns .el1).tpms) = false ∧ ((ns .el1).a64EL2 && !(ns .el1).e2pb.getLsbD 0) = false ∧
      ((ns .el1).a64EL2 && (ns .el1).ttrf) = false) ∧
    (secure.nspbTraps ∧ secure.ps.el = .el1 ∧ secure.a64EL2 = false) ∧
    (none.cfg.haveSPE = false ∧ none.cfg.haveTraceFilt = false ∧ (k1 .el0 6).ps.el = .el0) := by decide

/-- EL0 in AArch32 state: the traps to EL2 of DBGDSCRint, DBGDIDR, the transfer registers and the ROM addresses. -/
theorem witness_DebugTraps32_el0 :
    let s := k1A32 .el0 0x8000E00
    let g := withHcr (k1A32 .el0 6) 0x8000000
    (s.condPassed 14 = true ∧ s.ps.el = .el0 ∧ s.udccDis = false ∧ s.el2Enabled = true ∧
      (s.tge || s.tdcc || s.tde || s.tda) = true ∧ (s.tge || s.tde || s.tda) = true ∧
      (s.tge || s.tde || s.tdra) = true ∧ s.inp.halted = false) ∧
    (g.ps.el = .el0 ∧ g.udccDis = false ∧ g.el2Enabled = true ∧ g.tge = true) := by decide

/-- EL3 using AArch64, and Monitor mode: at EL2, EL1 and EL0. -/
theorem witness_DebugTraps32_el3 :
    let c (el : EL) := el3Ctl el true 0x8000600
    let m (el : EL) := monitorCtl el 0x8000000
    let quiet (s : State) := !(s.el2Enabled && (s.tge || s.tdcc || s.tde || s.tda || s.tdra || s.tdosa)) && !s.udccDis
    ((c .el2).condPassed 14 = true ∧ (c .el2).a64EL3 = true ∧ (c .el2).tdcc3 = true ∧ (c .el2).tda3 = true ∧
      (c .el2).tdosa3 = true ∧ (c .el2).ps.el = .el2 ∧ (c .el2).cfg.haveDoubleLock = true) ∧
    ((c .el1).ps.el = .el1 ∧ quiet (c .el1) = true ∧ (15 : BitVec 4).toNat < (c .el1).cfg.breakpoints ∧
      (15 : BitVec 4).toNat < (c .el1).cfg.watchpoints) ∧ ((c .el0).ps.el = .el0 ∧ quiet (c .el0) = true) ∧
    ((m .el2).a32EL3 = true ∧ (m .el2).sdcrTdcc = true ∧ (m .el2).ps.el = .el2) ∧
    ((m .el1).ps.el = .el1 ∧ quiet (m .el1) = true) ∧ ((m .el0).ps.el = .el0 ∧ quiet (m .el0) = true) ∧
    (place { Config.k1 with breakpoints := 1, watchpoints := 1 } .el1 true 6).cfg.breakpoints ≤ (1 : BitVec 4).toNat := by
  decide

/-- HSTR.T9 at EL1 and EL0, the fine-grained bits and TPM at EL0, MDCR_EL3.TPM at each level, what does not exist. -/
theorem witness_PmuAndTraceTraps32_further :
    let t9 (el : EL) := withHstr (k1A32 el 6) 0x200
    let fine := { withHdfg (k1A32 .el0 6) 0x2000000007FF000 with inp := (k1 .el0 0).inp }
    let tpm := withSelr (k1A32 .el0 0x44) 3
    let tpmcr := k1A32 .el0 0x24
    let c (el : EL) := withSelr (el3Ctl el true 0x40) 5
    let all (s : State) (n : BitVec 5) (p : PmuAccess → Bool) := (s.pmuAccesses32 14 0 1 n).all fun a =>
      (s.ps.el == .el0 && a.gate == .undefinedAtEl0) || (a.present && s.gateOpen a && p a)
    let none := place { Config.k1 with havePMUv3 := false } .el1 true 6
    (all (t9 .el1) 0 (fun a => !a.t9 || (t9 .el1).t9Trap a) = true ∧
      all (t9 .el0) 0 (fun a => !a.t9 || (t9 .el0).t9Trap a) = true) ∧
    all fine 0 (fun a => a.fgt.isNone || fine.fineTrap a) = true ∧
    (tpm.ps.el = .el0 ∧ tpm.el2Enabled = true ∧ all tpm 3 (fun a => tpm.counterFree a && tpm.tpmTrap a) = true) ∧
    (tpmcr.el2Enabled = true ∧ (tpmcr.pmuAccesses32 14 0 1 0).any (fun a => a.pmcr && tpmcr.gateOpen a && tpmcr.tpmTrap a)) ∧
    (all (c .el0) 5 (c .el0).el2Quiet32 = true ∧ all (c .el1) 5 (c .el1).el2Quiet32 = true ∧
      all (c .el2) 5 (c .el2).el2Quiet32 = true ∧ (c .el2).a64EL3 = true ∧ (c .el2).tpm3 = true) ∧
    (none.pmuAccesses32 14 0 1 0).all (fun a => !a.present) = true ∧ none.condPassed 14 = true := by decide

/-- TRFCR: HSTR.T1, Secure EL1 and EL3, MDCR_EL3.TTRF and SDCR.TTRF at EL2 and EL1, and no feature. -/
theorem witness_PmuAndTraceTraps32_trfcr :
    let t1 := withHstr (k1A32 .el1 6) 2
    let secure (el : EL) := withScr (monitorCtl el 0) 0
    let c (el : EL) := el3Ctl el true 0x80000
    let m (el : EL) := monitorCtl el 0x80000
    (t1.cfg.haveTraceFilt = true ∧ t1.condPassed 14 = true ∧ t1.ps.el = .el1 ∧ (t1.el2Enabled && t1.hstrT 1) = true) ∧
    ((secure .el3).ps.el = .el3 ∧ (secure .el3).nonSecure = false) ∧
    ((secure .el1).ps.el = .el1 ∧ ((secure .el1).el2Enabled && (secure .el1).hstrT 1) = false ∧
      (secure .el1).nonSecure = false) ∧
    ((c .el2).ps.el = .el2 ∧ (c .el2).a64EL3 = true ∧ (c .el2).ttrf3 = true) ∧
    ((c .el1).ps.el = .el1 ∧ ((c .el1).el2Enabled && ((c .el1).hstrT 1 || (c .el1).ttrf)) = false ∧
      (c .el1).nonSecure = true) ∧
    ((m .el2).ps.el = .el2 ∧ (m .el2).a32EL3 = true ∧ (m .el2).sdcrTtrf = true) ∧
    ((m .el1).ps.el = .el1 ∧ (m .el1).nonSecure = true) ∧
    { Config.k1 with haveTraceFilt := false }.haveTraceFilt = false := by decide

/-- The EL1 controls at EL0, under an EL1 using AArch64 and under one using AArch32, and closed gates. -/
theorem witness_ControlsAtEl0_a32 :
    let s := withMdscr (k1A32 .el0 6) 0x1000
    let a64 := { s with inp := (k1 .el0 0).inp }
    let g := withUserenr (k1A32 .el0 6) 0
    (s.ps.el = .el0 ∧ s.condPassed 14 = true ∧ s.udccDis = true ∧ s.inp.el1A32 = true ∧ s.inp.halted = false) ∧
    (a64.ps.el = .el0 ∧ a64.udccDis = true ∧ a64.inp.el1A32 = false ∧ (withHcr a64 0x8000000).tge = true) ∧
    (g.ps.el = .el0 ∧ g.condPassed 14 = true ∧ (g.pmuAccesses32 14 0 1 30).all (fun a =>
      a.gate == .undefinedAtEl0 || a.gate == .open || (a.present && g.gateClosed a.gate)) = true) := by decide

theorem witness_MdcrHasNoEffectAbove :
    (Instr.mrsMdscrEl1 0).group = .debug ∧ (k1 .el2 6).ps.el = .el2 ∧ (place cfgEl3 .el3 false 6).ps.el = .el3 ∧
    (place cfgNoEl2 .el1 false 0).el2Enabled = false := by decide

theorem witness_ExceptionEntry :
    (EL.el2 ≠ .el0 ∧ (k1 .el1 6).ps.el.num ≤ EL.el2.num ∧ (k1 .el1 6).elA32 .el2 = false ∧ (k1 .el1 6).ps.nRW = false) ∧
    (EL.el1 ≠ .el2 ∧ (k1 .el1 6).ps.el.num ≤ EL.el1.num ∧ (k1 .el1 6).elA32 .el1 = false) ∧
    ((k1A32 .el1 6).ps.el.num ≤ EL.el3.num ∧ (k1A32 .el1 6).elA32 .el3 = false) := by decide

theorem witness_UndefinedException : (k1 .el0 6).elA32 .el1 = false ∧ (k1 .el2 6).elA32 .el2 = false := by decide

theorem witness_DebugExceptionRouting :
    let tde := withEvent (k1 .el0 0x100) (.debugException (.brk 0xFFFF))
    let tge := withEvent (withHcr (k1 .el1 0) 0x8000000) (.debugException .vectorCatch)
    let off0 := withEvent (k1 .el0 0) (.debugException (.softwareStep true true))
    let off1 := withEvent (k1 .el1 0) (.debugException (.watchpoint false true true))
    (tde.ps.el = .el0 ∧ tde.el2Enabled = true ∧ (tde.ctl.mdcrEl2.getLsbD 8 || tde.ctl.hcrEl2.getLsbD 27) = true ∧
      tde.events = [.debugException (.brk 0xFFFF)]) ∧
    (tge.ps.el = .el1 ∧ tge.el2Enabled = true ∧ (tge.ctl.mdcrEl2.getLsbD 8 || tge.ctl.hcrEl2.getLsbD 27) = true ∧
      tge.events = [.debugException .vectorCatch]) ∧
    (off0.ps.el = .el0 ∧ ¬(off0.el2Enabled = true ∧ off0.effTde = true)) ∧
    (off1.ps.el = .el1 ∧ ¬(off1.el2Enabled = true ∧ off1.effTde = true)) := by decide

/-- Returns that are performed: to EL0, to the level itself, to AArch32 state at EL1, from EL3 to an enabled EL2; and
returns that are refused: each of the seven ways. -/
theorem witness_ExceptionReturn :
    let s := withEvent (k1 .el2 6) .exceptionReturn
    let e3 := withEvent (place cfgEl3 .el3 false 6) .exceptionReturn
    let no2 := withEvent (place cfgNoEl2 .el3 false 0) .exceptionReturn
    let secure := withScr (withEvent (place { cfgEl3 with haveSecEL2 := true } .el3 false 6) .exceptionReturn) 0x40000
    (s.events = [.exceptionReturn] ∧ s.ps.el ≠ .el0 ∧ s.ps.nRW = false) ∧
    (e3.events = [.exceptionReturn] ∧ e3.ps.el ≠ .el0 ∧ e3.ps.nRW = false) ∧
    (s.legalReturn .el2 0 = true ∧ s.legalReturn .el2 9 = true ∧ s.legalReturn .el2 0x15 = true ∧
      s.legalReturn .el2 0x10 = true) ∧
    (e3.el2Enabled = true ∧ e3.legalReturn .el3 8 = true ∧ e3.legalReturn .el3 0x19 = true ∧
      secure.legalReturn .el3 9 = true) ∧
    (s.legalReturn .el2 6 = false ∧ s.legalReturn .el2 1 = false ∧ s.legalReturn .el2 0xD = false) ∧
    (no2.events = [.exceptionReturn] ∧ no2.ps.el ≠ .el0 ∧ no2.ps.nRW = false ∧ no2.legalReturn .el3 9 = false) ∧
    ((withScr e3 0).el2Enabled = false ∧ (withScr e3 0).legalReturn .el3 9 = false) ∧
    (secure.secureEL2 = true ∧ secure.legalReturn .el3 0x19 = false) := by decide

theorem witness_ReturnUndoesEntry :
    EL.el2 ≠ .el0 ∧ (k1 .el1 6).elA32 .el2 = false ∧ (k1 .el1 6).ps.nRW = false ∧ (k1 .el1 6).ps.thumb = false ∧
    (k1 .el1 6).ps.it = 0 := by decide

theorem witness_ResetOfMdcr :
    (withEvent (k1 .el1 6) .coldReset).events = [.coldReset] ∧ (withEvent (k1 .el1 6) .warmReset).events = [.warmReset] ∧
    (k1 .el1 6).cfg.haveEL2 = true ∧ { Config.k1 with haveMTPMU := true }.haveMTPMU = true ∧
    Config.k1.haveEL3 = false ∧ { Config.k1 with resetIntoAArch64 := false }.resetIntoAArch64 = false := by decide

theorem witness_ResetOfTheRest :
    (withEvent (k1 .el1 6) .coldReset).events = [.coldReset] ∧ (withEvent (k1 .el1 6) .warmReset).events = [.warmReset] ∧
    (k1 .el1 6).cfg.haveEL3 = false ∧ (k1 .el1 6).cfg.haveEL2 = true := by decide

theorem witness_LoadAfterStore : Memory.wf (atMrs.mem) = true ∧ 8 ≤ 8 ∧ 0 ≤ 8 := by decide

theorem witness_VisibleCounterBits :
    (k1 .el2 4).ps.el = .el2 ∧ ((k1 .el1 4).el2Enabled = true ∧ (k1 .el1 4).ps.el = .el1 ∧ (k1 .el1 4).hpmnLegal = true) ∧
    (30 : XReg) ≠ 31 ∧ (k1 .el1 4).pmuOpen (k1 .el1 4).cfg.havePMUv3 gateEN (some (true, 16)) false = true ∧
    (k1 .el0 4).pmuOpen (k1 .el0 4).cfg.havePMUv3 gateEN (some (false, 16)) false = true := by decide

/-- The last counter below HPMN and HPMN itself, both counting, one that is held, and another PE's event with MT 1 and 0. -/
theorem witness_CounterEvents :
    let s := withPmcr (withEnables (k1 .el1 0x84) 0x3F) 0x3001
    let h := withPmcr (withEnables (k1 .el2 0x20084) 0x3F) 0x3001
    (withEvent s (.counterEvent 3 .thisPE)).events = [.counterEvent 3 .thisPE] ∧ s.cfg.haveEL2 = true ∧ s.hpmnLegal = true ∧
    (3 < s.hpmn ∧ s.pmu.pmcnten.getLsbD 3 = true ∧ s.pmu.pmcr.getLsbD 0 = true) ∧
    (¬4 < s.hpmn ∧ 4 < s.pmcrN ∧ s.pmu.pmcnten.getLsbD 4 = true ∧ s.hpme = true) ∧
    (h.ps.el = .el2 ∧ h.hpmd = true ∧ h.cfg.haveDebugv8p2 = true ∧ h.hpmnLegal = true) ∧ s.cfg.haveMTPMU = false ∧
    { Config.k1 with haveMTPMU := true }.haveEL3 = false ∧
    (let m (mdcr : Word) := withMt (withPmcr (withEnables (k1 .el1 mdcr) 0x3F) 0x3001)
     (withEvent (m 0x10000084) (.counterEvent 3 .affinityPE)).events = [.counterEvent 3 .affinityPE] ∧
     (m 0x10000084).effMt 3 = true ∧ (m 0x84).effMt 3 = false ∧ (m 0x84).cfg.haveMTPMU = true ∧
     (m 0x84).hpmnLegal = true ∧ (m 0x10000084).hpmnLegal = true ∧ (m 0x84).cfg.haveEL2 = true) := by decide

/-- A cycle that counts, and one that HCCD holds. -/
theorem witness_CycleCounterControls :
    let s := withPmcr (withEnables (k1 .el1 4) 0x80000000) 0x3001
    let h := withPmcr (withEnables (k1 .el2 0x800004) 0x80000000) 0x3001
    (withEvent s .cycle).events = [.cycle] ∧ s.pmu.pmcnten.getLsbD 31 = true ∧ s.pmu.pmcr.getLsbD 0 = true ∧
    s.ps.el ≠ .el2 ∧ h.ps.el = .el2 ∧ h.hccd = true := by decide

theorem witness_PmcrFieldsAndHpmn :
    (k1 .el1 6).hpmnPlain = true ∧ (k1 .el1 1).hpmnPlain = true ∧ (0 : XReg) ≠ 31 ∧
    (k1 .el1 6).pmuOpen (k1 .el1 6).cfg.havePMUv3 gateEN none true = true ∧
    (k1 .el0 6).pmuOpen (k1 .el0 6).cfg.havePMUv3 gateEN (some (false, 21)) true = true := by decide

theorem witness_ProfilingBufferOwner :
    (place cfgNoEl2 .el1 false 0).el2EnabledInOwner = false ∧ (k1 .el1 0).el2EnabledInOwner = true ∧
    (k1 .el1 0).e2pb = 0 ∧ (k1 .el1 0x1000).e2pb = 1 ∧ (k1 .el1 0x2000).e2pb = 2 ∧ (k1 .el1 0x3000).e2pb = 3 ∧
    (30 : XReg) ≠ 31 ∧ (k1 .el1 0).cfg.haveSPE = true ∧ (k1 .el1 0).cfg.haveEL3 = false ∧ (k1 .el1 0).ps.el = .el1 ∧
    (k1 .el2 0).ps.el = .el2 := by decide

end Sys2Proof.Tests
end

section
/-! SUPPORT. The state family: what an exception entry leaves behind, and the parts of the invariant that a step keeps. -/

namespace Sys2Proof.Machine

/-! ### Exception entries -/

/-- The fields of PSTATE that no instruction writes (10_state.md R36). -/
structure PState.SameFlags (p q : PState) : Prop where
  n : q.n = p.n
  z : q.z = p.z
  c : q.c = p.c
  v : q.v = p.v
  tco : q.tco = p.tco
  dit : q.dit = p.dit
  uao : q.uao = p.uao
  pan : q.pan = p.pan
  ssbs : q.ssbs = p.ssbs
  btype : q.btype = p.btype

/-- `t` is `s` after an exception entry to level `T`, in the Execution state that `T` is using. -/
structure State.Entered (s : State) (T : EL) (t : State) : Prop where
  frame : t = { s with pc := t.pc, ps := t.ps, exc := t.exc }
  el : t.ps.el = T
  nRW : t.ps.nRW = s.elA32 T
  thumb : t.ps.nRW = false → t.ps.thumb = false ∧ t.ps.it = 0
  flags : s.ps.SameFlags t.ps

theorem State.takeSync_entered (s : State) {T : EL} (esr : Word) (h : s.elA32 T = false) :
    s.Entered T (s.takeSync T esr) where
  frame := by cases T <;> rfl
  el := rfl
  nRW := h.symm
  thumb _ := ⟨rfl, rfl⟩
  flags := by constructor <;> rfl

theorem State.takeHyp_entered (s : State) (esr : Word) (h : s.el2A32 = true) : s.Entered .el2 (s.takeHyp esr) where
  frame := s.takeHyp_eq esr
  el := rfl
  nRW := h.symm
  thumb h0 := nomatch h0
  flags := by constructor <;> rfl

theorem State.takeMode_entered (s : State) {T : EL} (h : s.elA32 T = true) : s.Entered T (s.takeMode T) where
  frame := rfl
  el := rfl
  nRW := h.symm
  thumb h0 := nomatch h0
  flags := by constructor <;> rfl

/-- An exception is an entry to its target level, whichever Execution state that level is using (60_exceptions.md
R241). -/
theorem State.take_entered (s : State) (T : EL) (esr : Word) : s.Entered T (s.take T esr) := by
  unfold State.take
  split
  case isTrue h32 =>
    split
    · next hT => subst hT; exact s.takeHyp_entered esr h32
    · exact s.takeMode_entered h32
  case isFalse h64 => exact s.takeSync_entered esr (Bool.eq_false_iff.mpr h64)

/-- A level that an exception of an instruction is taken to. -/
def State.exceptionTarget (s : State) (T : EL) : Prop := T = s.undefinedTarget ∨ s.trapTarget T

theorem State.Raises.entered {s t : State} (h : s.Raises t) : ∃ T, s.Entered T t ∧ s.exceptionTarget T := by
  cases h with
  | undefined => exact ⟨_, s.take_entered _ _, .inl rfl⟩
  | trap T ec iss hT => exact ⟨T, s.take_entered T _, .inr hT⟩
  | hyp esr hT h32 => exact ⟨.el2, s.takeHyp_entered esr h32, .inr hT⟩
  | monitor hT h32 => exact ⟨.el3, s.takeMode_entered h32, .inr hT⟩

/-- No exception lowers the level (60_exceptions.md R220). -/
theorem State.exceptionTarget_le {s : State} {T : EL} (h : s.exceptionTarget T) : s.ps.el.num ≤ T.num := by
  rcases h with rfl | ⟨rfl, he⟩ | ⟨rfl, -, he⟩ | ⟨rfl, -, -⟩
  · unfold State.undefinedTarget
    by_cases he : s.ps.el = .el0
    · simp [he, EL.num]
    · simp [he]
  · simp [he, EL.num]
  · rcases he with he | he <;> simp [he, EL.num]
  · cases s.ps.el <;> simp [EL.num]

/-! ### The two parts of the invariant -/

/-- The part of State.Inv about the level and the Execution state. -/
structure State.LevelInv (s : State) : Prop where
  level : s.haveEL s.ps.el = true ∧ (s.ps.el = .el2 → s.el2Enabled = true)
  execState : s.ps.el ≠ .el0 → s.ps.nRW = s.elA32 s.ps.el
  thumb : s.ps.nRW = false → s.ps.thumb = false ∧ s.ps.it = 0

/-- The part of State.Inv about what is stored: memory, MDCR_EL2 and the Performance Monitors registers. -/
structure State.StorageInv (s : State) : Prop where
  mem : Memory.wf s.mem = true
  res0 : s.cfg.res0BitsStored = false → s.ctl.mdcrEl2 &&& ~~~implMask s.cfg = 0
  pmcr : s.pmu.pmcr.extractLsb' 11 5 = s.cfg.pmcrN ∧ s.pmu.pmcr.extractLsb' 1 2 = 0
  counters : s.cfg.havePMUv3p5 = false → ∀ n, n < 31 → vget s.pmu.evcntr n &&& 0xFFFFFFFF00000000 = 0

theorem State.inv_iff (s : State) : s.Inv ↔ s.StorageInv ∧ s.LevelInv where
  mp | ⟨mem, res0, pmcr, counters, level, execState, thumb⟩ => ⟨⟨mem, res0, pmcr, counters⟩, ⟨level, execState, thumb⟩⟩
  mpr | ⟨⟨mem, res0, pmcr, counters⟩, ⟨level, execState, thumb⟩⟩ => ⟨mem, res0, pmcr, counters, level, execState, thumb⟩

theorem State.StorageInv.congr {s t : State} (h : s.StorageInv) (hcfg : t.cfg = s.cfg) (hmem : t.mem = s.mem)
    (hctl : t.ctl.mdcrEl2 = s.ctl.mdcrEl2) (hpmu : t.pmu = s.pmu) : t.StorageInv := by
  obtain ⟨mem, res0, pmcr, counters⟩ := h
  constructor <;> simpa only [hcfg, hmem, hctl, hpmu]

theorem State.StorageInv.of_access {i : Instr} {s u : State} (h : s.StorageInv) (a : Access i s u) : u.StorageInv where
  mem := a.wf h.mem
  res0 := by rw [a.cfg]; exact fun hb => a.res0 hb (h.res0 hb)
  pmcr := by rw [a.cfg]; exact a.pmcr h.pmcr
  counters := by rw [a.cfg]; exact fun hp => a.counters hp (h.counters hp)

theorem State.elA32_congr {s t : State} {T : EL} (hcfg : t.cfg = s.cfg) (hscr : t.ctl.scrEl3 = s.ctl.scrEl3)
    (h1 : t.inp.el1A32 = s.inp.el1A32) (h2 : t.inp.el2A32 = s.inp.el2A32) (h3 : t.inp.el3A32 = s.inp.el3A32)
    (hT : T ≠ .el0) : t.elA32 T = s.elA32 T := by
  cases T with
  | el0 => exact absurd rfl hT
  | el1 => exact h1
  | el2 => simp only [State.elA32, State.el2A32, State.secureEL2, hcfg, hscr, h2]
  | el3 => exact h3

theorem State.haveEL_congr {s t : State} (hcfg : t.cfg = s.cfg) (T : EL) : t.haveEL T = s.haveEL T := by
  cases T <;> simp only [State.haveEL, hcfg]

theorem State.el2Enabled_congr {s t : State} (hcfg : t.cfg = s.cfg) (hscr : t.ctl.scrEl3 = s.ctl.scrEl3) :
    t.el2Enabled = s.el2Enabled := by
  simp only [State.el2Enabled, hcfg, hscr]

theorem State.LevelInv.congr {s t : State} (h : s.LevelInv) (hcfg : t.cfg = s.cfg) (hps : t.ps = s.ps)
    (hscr : t.ctl.scrEl3 = s.ctl.scrEl3) (h1 : t.inp.el1A32 = s.inp.el1A32) (h2 : t.inp.el2A32 = s.inp.el2A32)
    (h3 : t.inp.el3A32 = s.inp.el3A32) : t.LevelInv where
  level := by rw [hps, State.haveEL_congr hcfg, State.el2Enabled_congr hcfg hscr]; exact h.level
  execState h0 := by
    rw [hps] at h0 ⊢
    rw [State.elA32_congr hcfg hscr h1 h2 h3 h0]
    exact h.execState h0
  thumb := by rw [hps]; exact h.thumb

/-- Moving past an instruction changes IT in T32 only. -/
theorem State.LevelInv.advance {s : State} (h : s.LevelInv) : s.advance.LevelInv where
  level := h.level
  execState := h.execState
  thumb h0 := by
    obtain ⟨hth, hit⟩ := h.thumb h0
    exact ⟨hth, by simp [hth, hit]⟩

/-- A level that an exception may be taken to (60_exceptions.md R220). -/
structure State.EntryLevel (s : State) (T : EL) : Prop where
  ne_el0 : T ≠ .el0
  implemented : s.haveEL T = true
  enabled : T = .el2 → s.el2Enabled = true

theorem State.LevelInv.of_entered {s t : State} {T : EL} (ht : s.Entered T t) (hT : s.EntryLevel T) :
    t.LevelInv := by
  obtain ⟨frame, rfl, nRW, thumb, -⟩ := ht
  have hcfg : t.cfg = s.cfg := by rw [frame]
  have hctl : t.ctl = s.ctl := by rw [frame]
  have hinp : t.inp = s.inp := by rw [frame]
  refine ⟨⟨?_, fun h2 => ?_⟩, fun h0 => ?_, thumb⟩
  · rw [State.haveEL_congr hcfg]; exact hT.implemented
  · rw [State.el2Enabled_congr hcfg (by rw [hctl])]; exact hT.enabled h2
  · rw [nRW, State.elA32_congr hcfg (by rw [hctl]) (by rw [hinp]) (by rw [hinp]) (by rw [hinp]) h0]

theorem State.StorageInv.of_entered {s t : State} {T : EL} (h : s.StorageInv) (ht : s.Entered T t) : t.StorageInv :=
  h.congr (by rw [ht.frame]) (by rw [ht.frame]) (by rw [ht.frame]) (by rw [ht.frame])

theorem State.Inv.of_entered {s t : State} {T : EL} (h : s.Inv) (ht : s.Entered T t) (hT : s.EntryLevel T) :
    t.Inv :=
  t.inv_iff.mpr ⟨(s.inv_iff.mp h).1.of_entered ht, .of_entered ht hT⟩

/-! ### Which levels exceptions are taken to -/

theorem State.entryLevel_el1 (s : State) : s.EntryLevel .el1 := ⟨by decide, rfl, nofun⟩

theorem State.entryLevel_el2 {s : State} (h : s.el2Enabled = true) : s.EntryLevel .el2 :=
  ⟨by decide, haveEL2_of_enabled h, fun _ => h⟩

theorem State.Inv.entryLevel_current {s : State} (h : s.Inv) (h0 : s.ps.el ≠ .el0) : s.EntryLevel s.ps.el :=
  ⟨h0, h.level.1, h.level.2⟩

theorem State.entryLevel_of_trapTarget {s : State} {T : EL} (h : s.trapTarget T) : s.EntryLevel T := by
  rcases h with ⟨rfl, -⟩ | ⟨rfl, h2, -⟩ | ⟨rfl, h3, -⟩
  · exact s.entryLevel_el1
  · exact State.entryLevel_el2 h2
  · exact ⟨by decide, h3, nofun⟩

theorem State.Inv.entryLevel_undefined {s : State} (h : s.Inv) : s.EntryLevel s.undefinedTarget := by
  unfold State.undefinedTarget
  split
  · split
    · next h2 => exact State.entryLevel_el2 (Bool.and_eq_true_iff.mp h2).1
    · exact s.entryLevel_el1
  · next h0 => exact h.entryLevel_current h0

theorem State.Inv.entryLevel_debug {s : State} (h : s.Inv) : s.EntryLevel s.debugTarget := by
  have guest : s.EntryLevel (if s.el2Enabled && s.effTde then .el2 else .el1) := by
    split
    · next h2 => exact State.entryLevel_el2 (Bool.and_eq_true_iff.mp h2).1
    · exact s.entryLevel_el1
  unfold State.debugTarget
  cases he : s.ps.el with
  | el0 => exact guest
  | el1 => exact guest
  | el2 => have hc := h.entryLevel_current; rw [he] at hc; exact hc (by decide)
  | el3 => have hc := h.entryLevel_current; rw [he] at hc; exact hc (by decide)

/-! ### What an instruction keeps -/

theorem State.Inv.raises {s t : State} (h : s.Inv) (ht : s.Raises t) : t.Inv := by
  obtain ⟨T, hent, rfl | htrap⟩ := ht.entered
  · exact h.of_entered hent h.entryLevel_undefined
  · exact h.of_entered hent (State.entryLevel_of_trapTarget htrap)

theorem State.Inv.takeUndefined {s : State} (h : s.Inv) : s.takeUndefined.Inv := h.raises .undefined

/-- A change of what the invariant does not read: the registers, the debug and profiling registers, the waiting inputs,
the step counter, and the inputs that are not about the use of AArch32. -/
theorem State.Inv.congr {s t : State} (h : s.Inv) (hcfg : t.cfg = s.cfg) (hps : t.ps = s.ps) (hmem : t.mem = s.mem)
    (hctl : t.ctl = s.ctl) (hpmu : t.pmu = s.pmu) (h1 : t.inp.el1A32 = s.inp.el1A32)
    (h2 : t.inp.el2A32 = s.inp.el2A32) (h3 : t.inp.el3A32 = s.inp.el3A32) : t.Inv := by
  obtain ⟨hst, hlv⟩ := s.inv_iff.mp h
  exact t.inv_iff.mpr ⟨hst.congr hcfg hmem (by rw [hctl]) hpmu, hlv.congr hcfg hps (by rw [hctl]) h1 h2 h3⟩

theorem State.Inv.advance {s : State} (h : s.Inv) : s.advance.Inv := by
  obtain ⟨hst, hlv⟩ := s.inv_iff.mp h
  exact (State.inv_iff _).mpr ⟨hst.congr rfl rfl rfl rfl, hlv.advance⟩

theorem State.Inv.setX {s : State} (h : s.Inv) (t : XReg) (v : Word) : (s.setX t v).Inv :=
  h.congr rfl rfl rfl rfl rfl rfl rfl rfl

theorem State.Inv.of_access {i : Instr} {s u : State} (h : s.Inv) (a : Access i s u) : u.Inv := by
  obtain ⟨hst, hlv⟩ := s.inv_iff.mp h
  have hscr : u.ctl.scrEl3 = s.ctl.scrEl3 := by rw [a.controls]
  exact u.inv_iff.mpr ⟨hst.of_access a,
    hlv.congr a.cfg a.ps hscr (by rw [a.inp]) (by rw [a.inp]) (by rw [a.inp])⟩

/-- Every instruction of the table keeps the invariant. -/
theorem State.Inv.exec {i : Instr} {s t : State} (h : s.Inv) (ht : exec i s = .next t) : t.Inv := by
  obtain ⟨u, hu, ho⟩ := exec_outcome i s
  cases hu.symm.trans ht
  rcases ho with hr | rfl | ⟨u, rfl, ha⟩
  · exact h.raises hr
  · exact h.congr rfl rfl rfl rfl rfl rfl rfl rfl
  · exact (h.of_access ha).advance

/-! ### What the words outside the table keep -/

theorem State.Inv.runUnallocated {s : State} (h : s.Inv) (w : Word32) : (runUnallocated w s).Inv := by
  unfold Machine.runUnallocated
  split
  · exact h.advance
  · exact h.takeUndefined

theorem State.Inv.trapEl2 {s : State} (h : s.Inv) (h2 : s.el2Enabled = true) (ec : BitVec 6) (iss : BitVec 25) :
    (s.takeTrap .el2 ec iss).Inv :=
  h.of_entered (s.take_entered .el2 _) (State.entryLevel_el2 h2)

theorem State.Inv.runExtra {s t : State} {e : SysEnc} {x : XReg} {read : Bool} {w : Word32} (h : s.Inv)
    (ht : runExtra e x read w s = .next t) : t.Inv := by
  unfold Machine.runExtra at ht
  cases he : s.ps.el <;> simp only [he] at ht
  case el0 => cases ht; exact h.takeUndefined
  case el1 =>
    split at ht
    · next htrap =>
      cases ht
      exact h.trapEl2 (a64EL2_spec (Bool.and_eq_true_iff.mp htrap).1).1 _ _
    · cases ht
  case el2 => cases ht
  case el3 => cases ht

theorem extra32Chain_sound (s : State) : (extra32Chain s).Sound s := by
  have := @a64EL2_spec s
  have := @a32EL2_spec s
  constructor <;> (intros; unfold extra32Chain at *; unfold State.trapTarget; cases he : s.ps.el <;> grind)

/-- An AArch32 access keeps the invariant where its transfers do. -/
theorem State.Inv.next32 {s zero : State} {c : Cond} {ec : BitVec 6} {iss : BitVec 25} {d : Decision32}
    {acc : Nat → State} (h : s.Inv) (hd : d.Sound s) (ha : ∀ k, (acc k).Inv) (hz : zero.Inv) :
    (next32 c ec iss d acc zero s).Inv := by
  rcases next32_cases c ec iss d acc zero s with ⟨-, k, -, e⟩ | ⟨-, -, e⟩ | e | ⟨-, e⟩ | ⟨T, hT, e⟩ | ⟨hT, e⟩ |
    ⟨hT, e⟩ | ⟨hT, e⟩ <;> rw [e]
  · exact (ha k).advance
  · exact hz.advance
  · exact h.advance
  · exact h.takeUndefined
  · exact h.raises (.trap T _ _ (hd.trap T hT))
  · exact h.raises (.hyp _ (hd.hyp (.inl hT)).1 (hd.hyp (.inl hT)).2)
  · exact h.raises (.hyp _ (hd.hyp (.inr hT)).1 (hd.hyp (.inr hT)).2)
  · exact h.raises (.monitor (hd.monitor hT).1 (hd.monitor hT).2)

theorem State.Inv.runExtra32 {s t : State} {e : CpEnc} {c : Cond} {x : RReg} {read : Bool} {w : Word32} (h : s.Inv)
    (ht : runExtra32 e c x read w s = .next t) : t.Inv := by
  unfold Machine.runExtra32 at ht
  split at ht
  · cases ht
  · cases ht
    exact h.next32 (extra32Chain_sound s) (fun _ => h) h

/-- PSTATE from an SPSR has T and IT in AArch32 state only. -/
theorem PState.ofSpsr_thumb (p : PState) (v : Word) (h : (PState.ofSpsr p v).nRW = false) :
    (PState.ofSpsr p v).thumb = false ∧ (PState.ofSpsr p v).it = 0 := by
  have h4 : v.getLsbD 4 = false := h
  simp only [PState.ofSpsr, h4, Bool.false_and, Bool.false_eq_true, if_false, and_self]

theorem State.legalReturn_level {s : State} {T : EL} {v : Word} (h : s.legalReturn T v = true) :
    s.haveEL (PState.ofSpsr s.ps v).el = true ∧ ((PState.ofSpsr s.ps v).el = .el2 → s.el2Enabled = true) := by
  unfold State.legalReturn at h
  simp only [Bool.and_eq_true] at h
  obtain ⟨⟨⟨⟨-, hhave⟩, -⟩, -⟩, h2⟩ := h
  refine ⟨hhave, fun he => ?_⟩
  simp [he] at h2
  exact h2.1

theorem State.Inv.exceptionReturn {s t : State} (h : s.Inv) (ht : exceptionReturn s = .next t) : t.Inv := by
  obtain ⟨hst, -⟩ := s.inv_iff.mp h
  unfold Machine.exceptionReturn at ht
  split at ht
  · cases ht
  split at ht
  · next hlegal =>
    cases ht
    have heq := s.returnFrom_eq s.ps.el
    have hps : (s.returnFrom s.ps.el).ps = PState.ofSpsr s.ps (s.bank s.ps.el).spsr := by rw [heq]
    have hcfg : (s.returnFrom s.ps.el).cfg = s.cfg := by rw [heq]
    have hctl : (s.returnFrom s.ps.el).ctl = s.ctl := by rw [heq]
    obtain ⟨hhave, h2⟩ := State.legalReturn_level hlegal
    refine (State.inv_iff _).mpr ⟨hst.congr hcfg (by rw [heq]) (by rw [hctl]) (by rw [heq]),
      ⟨⟨?_, ?_⟩, State.returnFrom_nRW hlegal, ?_⟩⟩
    · rw [State.haveEL_congr hcfg, hps]; exact hhave
    · rw [State.el2Enabled_congr hcfg (by rw [hctl]), hps]; exact h2
    · rw [hps]; exact PState.ofSpsr_thumb _ _
  · cases ht

theorem State.Inv.runOther {s t : State} {w : Word32} (h : s.Inv) (ht : runOther w s = .next t) : t.Inv := by
  unfold Machine.runOther at ht
  split at ht
  · split at ht
    · cases ht; exact (h.setX _ _).advance
    split at ht
    · cases ht; exact h.advance
    split at ht
    · exact h.exceptionReturn ht
    split at ht
    · split at ht
      · exact h.runExtra ht
      · cases ht
    · cases ht
  · split at ht
    · split at ht
      · exact h.runExtra32 ht
      · cases ht
    · cases ht

theorem State.Inv.stepInstr {s t : State} (h : s.Inv) (ht : stepInstr s = .next t) : t.Inv := by
  unfold Machine.stepInstr at ht
  split at ht
  · cases ht
  split at ht
  · exact h.exec ht
  · cases ht; exact h.runUnallocated _
  · exact h.runOther ht
  · cases ht

/-! ### What an input keeps -/

/-- A change of the Performance Monitors registers that keeps PMCR_EL0 and the width of the counters. -/
theorem State.Inv.of_counters {s : State} {p : PmuRegs} (h : s.Inv) (hp : p.pmcr = s.pmu.pmcr)
    (hc : s.cfg.havePMUv3p5 = false → ∀ n, n < 31 → vget p.evcntr n &&& 0xFFFFFFFF00000000 = 0) :
    ({ s with pmu := p } : State).Inv :=
  { h with pmcr := by rw [hp]; exact h.pmcr, counters := hc }

theorem State.Inv.countEvent {s : State} (h : s.Inv) (n : Nat) (src : EventSource) : (s.countEvent n src).Inv := by
  obtain ⟨heq, hpmcr⟩ := countEvent_eq s n src
  rw [heq]
  exact h.of_counters hpmcr (fun h5 => countEvent_high s n src h5 (h.counters h5))

theorem State.Inv.countCycle {s : State} (h : s.Inv) : s.countCycle.Inv := by
  unfold State.countCycle
  split
  · exact h.of_counters rfl h.counters
  · exact h

theorem State.Inv.takeDebug {s : State} (h : s.Inv) (e : DebugException) : (s.takeDebug e).Inv :=
  h.of_entered (s.take_entered _ _) h.entryLevel_debug

/-! ### What a reset gives -/

theorem mdcrAfterReset_res0 (s : State) (cold : Bool) : s.mdcrAfterReset cold &&& ~~~implMask s.cfg = 0 := by
  unfold State.mdcrAfterReset
  split
  · exact BitVec.zero_and
  · rw [BitVec.and_assoc]
    simp

theorem vget_map_counterValue_high {c : Config} (h : c.havePMUv3p5 = false) (v : Vector Word 31) (n : Nat) :
    vget (v.map (counterValue c)) n &&& 0xFFFFFFFF00000000 = 0 := by
  unfold vget
  rw [Vector.getElem?_map]
  cases v[n]? with
  | none => exact BitVec.zero_and
  | some w => exact counterValue_high h w

/-- A reset stores a value in PMCR_EL0 as a write does (70_reset_and_hazards.md R268). -/
theorem pmuAfterReset_pmcr (s : State) :
    s.pmuAfterReset.pmcr = (s.pmcrWrite (s.free (.reset 40) &&& ~~~1#64)).pmu.pmcr := rfl

theorem State.StorageInv.afterReset {s : State} (h : s.StorageInv) (cold : Bool) :
    (s.afterReset cold).StorageInv where
  mem := by rw [State.afterReset_mem]; exact h.mem
  res0 _ := by rw [State.afterReset_cfg, State.afterReset_ctl]; exact mdcrAfterReset_res0 s cold
  pmcr := by
    rw [State.afterReset_cfg, State.afterReset_pmu, pmuAfterReset_pmcr]
    exact (Access_pmcr (i := .msrPmcrEl0 0) s _ rfl).pmcr h.pmcr
  counters h5 n _ := by
    rw [State.afterReset_cfg] at h5
    rw [State.afterReset_pmu]
    exact vget_map_counterValue_high h5 _ n

/-- Every level that a reset goes to is one that is implemented, and EL2 only where there is no EL3 to disable it. -/
theorem resetEL_cases (c : Config) :
    (resetEL c = .el3 ∧ c.haveEL3 = true) ∨ (resetEL c = .el2 ∧ c.haveEL3 = false ∧ c.haveEL2 = true) ∨
      resetEL c = .el1 := by
  unfold resetEL
  cases c.haveEL3 <;> cases c.haveEL2 <;> simp

/-- The level reset into uses the Execution state that the PE resets into. -/
theorem elA32_afterReset (s : State) (cold : Bool) :
    (s.afterReset cold).elA32 (resetEL s.cfg) = !s.cfg.resetIntoAArch64 := by
  rcases resetEL_cases s.cfg with ⟨he, h3⟩ | ⟨he, h3, h2⟩ | he <;>
    simp [State.elA32, State.el2A32, State.secureEL2, State.inpAfterReset, *]

theorem State.levelInv_afterReset (s : State) (cold : Bool) : (s.afterReset cold).LevelInv where
  level := by
    rcases resetEL_cases s.cfg with ⟨he, h3⟩ | ⟨he, h3, h2⟩ | he <;>
      simp [State.psAfterReset, State.haveEL, State.el2Enabled, *]
  execState _ := (elA32_afterReset s cold).symm
  thumb h0 := by
    have h64 : (!s.cfg.resetIntoAArch64) = false := h0
    rw [State.afterReset_ps]
    simp only [State.psAfterReset, h64, Bool.false_and, Bool.false_eq_true, if_false, and_self]

theorem State.Inv.afterReset {s : State} (h : s.Inv) (cold : Bool) : (s.afterReset cold).Inv :=
  (State.inv_iff _).mpr ⟨(s.inv_iff.mp h).1.afterReset cold, s.levelInv_afterReset cold⟩

theorem State.Inv.handleEvent {s t : State} {e : Event} (h : s.Inv) (ht : handleEvent e s = .next t) : t.Inv := by
  cases e with
  | exceptionReturn => exact h.exceptionReturn ht
  | debugException d => cases ht; exact h.takeDebug d
  | warmReset => cases ht; exact h.afterReset false
  | coldReset => cases ht; exact h.afterReset true
  | counterEvent n src => cases ht; exact h.countEvent n src
  | cycle => cases ht; exact h.countCycle
  | setHalted b => cases ht; exact h.congr rfl rfl rfl rfl rfl rfl rfl rfl
  | setExternalDebug b => cases ht; exact h.congr rfl rfl rfl rfl rfl rfl rfl rfl
  | setSiblingMtpmu b => cases ht; exact h.congr rfl rfl rfl rfl rfl rfl rfl rfl

/-! ### The step -/

theorem tickOutcome_next {o : Host.Outcome State Fault Refusal} {t : State} (h : tickOutcome o = .next t) :
    ∃ u, o = .next u ∧ t = u.tick := by
  cases o with
  | next u => cases h; exact ⟨u, rfl, rfl⟩
  | fault f => cases h
  | refused r => cases h

/-- Settles O8: an instruction, a word outside the table and an input each keep the invariant, part by part. -/
theorem stepKeepsInvariant : Obligations.StepKeepsInvariant := by
  unfold Obligations.StepKeepsInvariant
  intro s t h ht
  have keeps : ∃ u : State, t = u.tick ∧ u.Inv := by
    unfold step at ht
    split at ht
    · next e rest _ =>
      have hs : ({ s with events := rest } : State).Inv := h.congr rfl rfl rfl rfl rfl rfl rfl rfl
      obtain ⟨u, hu, rfl⟩ := tickOutcome_next ht
      exact ⟨u, rfl, hs.handleEvent hu⟩
    · obtain ⟨u, hu, rfl⟩ := tickOutcome_next ht
      exact ⟨u, rfl, h.stepInstr hu⟩
  obtain ⟨u, rfl, hu⟩ := keeps
  exact hu.congr rfl rfl rfl rfl rfl rfl rfl rfl

end Sys2Proof.Machine
end

section
/-! SUPPORT. The frame of the general registers and of PSTATE, and the fields of MDCR_EL2 as the rules read them. -/

namespace Sys2Proof.Machine

/-! ### The fetched instruction -/

/-- With no input waiting, a step is the instruction at the pc. -/
theorem step_of_no_events {s : State} (h : s.events = []) : step s = tickOutcome (stepInstr s) := by
  unfold step
  rw [h]

theorem stepInstr_of_fetch {s : State} {i : Instr} (ha : s.pcAligned = true) (hf : s.fetch = .instr i) :
    stepInstr s = exec i s := by
  simp only [stepInstr, ha, hf, Bool.not_true, Bool.false_eq_true, if_false]

/-- Settles O7, by the equations of the step and of the fetch. -/
theorem stepRunsDecodedInstruction : Obligations.StepRunsDecodedInstruction := by
  unfold Obligations.StepRunsDecodedInstruction
  intro s i he ha hf _
  have hstep : step s = tickOutcome (exec i s) := by rw [step_of_no_events he, stepInstr_of_fetch ha hf]
  refine ⟨hstep, fun t ht => ?_⟩
  rw [hstep, ht]
  rfl

/-! ### The general registers -/

theorem State.Entered.getX {s t : State} {T : EL} (h : s.Entered T t) (r : XReg) : t.getX r = s.getX r := by
  rw [h.frame]; rfl

/-- An instruction leaves every register outside its destinations alone. -/
theorem exec_getX {i : Instr} {s t : State} {r : XReg} (ht : exec i s = .next t) (hr : r ∉ i.writesX) :
    t.getX r = s.getX r := by
  obtain ⟨u, hu, ho⟩ := exec_outcome i s
  cases hu.symm.trans ht
  rcases ho with hraise | rfl | ⟨u, rfl, ha⟩
  · obtain ⟨T, hent, -⟩ := hraise.entered
    exact hent.getX r
  · rfl
  · exact ha.regs r hr

theorem vset_of_le {n : Nat} (v : Vector Word n) {i : Nat} (w : Word) (h : n ≤ i) : vset v i w = v := by
  unfold vset
  exact Vector.setIfInBounds_eq_of_size_le h

/-- The zero register discards what is written (30_encoding.md R63). -/
theorem State.setX_zr (s : State) (v : Word) : s.setX 31 v = s := by
  unfold State.setX
  rw [vset_of_le s.x v (by decide)]

theorem State.setR_15 (s : State) (v : Word32) : s.setR 15 v = s := if_pos rfl

/-- In AArch32 state a write of R0 to R14 keeps the high half of the register. -/
theorem State.getX_setR_same (s : State) {r : RReg} (v : Word32) (h : r ≠ 15) :
    (s.setR r v).getX (r.setWidth 5) = (s.getX (r.setWidth 5)).extractLsb' 32 32 ++ v := by
  have hr : (r.setWidth 5).toNat = r.toNat := by
    rw [BitVec.toNat_setWidth]
    exact Nat.mod_eq_of_lt (by have := r.isLt; omega)
  unfold State.setR State.getX
  rw [if_neg h, hr]
  simp only
  rw [vget_vset, if_pos ⟨rfl, by have := r.isLt; omega⟩]
  rfl

/-- Settles O11: the frame comes from the outcome of the instruction, the laws from the register file. -/
theorem registerFrame : Obligations.RegisterFrame := by
  unfold Obligations.RegisterFrame
  refine ⟨fun i s t r ht hr => exec_getX ht hr, fun s v => ⟨s.getX_zr, s.setX_zr v⟩, fun s v r r' hr => ?_,
    fun s v r => ⟨s.setR_15 v, fun hr => s.getX_setR_same v hr⟩⟩
  rw [State.getX_setX]
  by_cases he : r' = r
  · subst he; rw [if_pos ⟨rfl, hr⟩, if_pos rfl]
  · rw [if_neg (fun hc => he hc.1.symm), if_neg he]

/-! ### The flags and the level -/

theorem PState.SameFlags.refl (p : PState) : p.SameFlags p := by constructor <;> rfl

/-- An instruction keeps the flags and does not lower the level. -/
theorem exec_flags {i : Instr} {s t : State} (ht : exec i s = .next t) :
    s.ps.SameFlags t.ps ∧ s.ps.el.num ≤ t.ps.el.num := by
  obtain ⟨u, hu, ho⟩ := exec_outcome i s
  cases hu.symm.trans ht
  rcases ho with hraise | rfl | ⟨u, rfl, ha⟩
  · obtain ⟨T, hent, hT⟩ := hraise.entered
    exact ⟨hent.flags, hent.el ▸ State.exceptionTarget_le hT⟩
  · exact ⟨.refl _, Nat.le_refl _⟩
  · rw [State.advance_ps, ha.ps]
    exact ⟨by constructor <;> rfl, Nat.le_refl _⟩

/-- Settles O14, field by field of `exec_flags`. -/
theorem flagsNeverChange : Obligations.FlagsNeverChange := by
  unfold Obligations.FlagsNeverChange
  intro i s t ht
  obtain ⟨f, hle⟩ := exec_flags ht
  exact ⟨f.n, f.z, f.c, f.v, f.tco, f.dit, f.uao, f.pan, f.ssbs, f.btype, hle⟩

/-! ### The mask of the implemented fields -/

/-- The bits of a constant, from its 64 bits one at a time. -/
theorem getLsbD_word_iff {k : Word} {p : Nat → Prop} (h : ∀ j : Fin 64, k.getLsbD j = true ↔ p j)
    (hp : ∀ j, p j → j < 64) (j : Nat) : k.getLsbD j = true ↔ p j := by
  by_cases hj : j < 64
  · exact h ⟨j, hj⟩
  · rw [BitVec.getLsbD_of_ge k j (by omega)]
    exact ⟨nofun, fun hpj => absurd (hp j hpj) hj⟩

theorem getLsbD_ite_zero (b : Bool) (k : Word) (j : Nat) :
    (if b then k else 0).getLsbD j = true ↔ k.getLsbD j = true ∧ b = true := by
  cases b <;> simp

theorem implMask_getLsbD (c : Config) (j : Nat) : (implMask c).getLsbD j = true ↔
    (j = 28 ∧ c.haveMTPMU = true ∧ c.haveEL3 = false) ∨ (j = 27 ∧ c.haveFGT = true) ∨
    ((j = 26 ∨ j = 23) ∧ c.havePMUv3p5 = true) ∨ (j = 19 ∧ c.haveTraceFilt = true) ∨ (j = 17 ∧ c.havePMUv3p1 = true) ∨
    (12 ≤ j ∧ j ≤ 14 ∧ c.haveSPE = true) ∨ (8 ≤ j ∧ j ≤ 11) ∨ (j ≤ 7 ∧ c.havePMUv3 = true) := by
  have always := getLsbD_word_iff (k := 0xF00#64) (p := fun j => 8 ≤ j ∧ j ≤ 11) (by decide) (by omega) j
  have mtpme := getLsbD_word_iff (k := 0x10000000#64) (p := fun j => j = 28) (by decide) (by omega) j
  have fgt := getLsbD_word_iff (k := 0x8000000#64) (p := fun j => j = 27) (by decide) (by omega) j
  have v3p5 := getLsbD_word_iff (k := 0x4800000#64) (p := fun j => j = 26 ∨ j = 23) (by decide) (by omega) j
  have trace := getLsbD_word_iff (k := 0x80000#64) (p := fun j => j = 19) (by decide) (by omega) j
  have v3p1 := getLsbD_word_iff (k := 0x20000#64) (p := fun j => j = 17) (by decide) (by omega) j
  have spe := getLsbD_word_iff (k := 0x7000#64) (p := fun j => 12 ≤ j ∧ j ≤ 14) (by decide) (by omega) j
  have v3 := getLsbD_word_iff (k := 0xFF#64) (p := fun j => j ≤ 7) (by decide) (by omega) j
  simp only [implMask, BitVec.getLsbD_or, Bool.or_eq_true, getLsbD_ite_zero, always, mtpme, fgt, v3p5, trace, v3p1, spe,
    v3]
  grind

/-- Where RES0 bits are not stored, a write of MDCR_EL2 clears them. -/
theorem mdcrMerge_res0 {c : Config} {old v : Word} {j : Nat} (h2 : c.haveEL2 = true) (hr : c.res0BitsStored = false)
    (hj : (implMask c).getLsbD j = false) : (mdcrMerge c old v).getLsbD j = false := by
  simp only [mdcrMerge, h2, hr, Bool.not_true, Bool.false_eq_true, if_false, BitVec.getLsbD_and, hj, Bool.and_false]

/-- Settles O25: the bits of the mask, its two extreme values, and what a write does outside it. -/
theorem implementedMask : Obligations.ImplementedMask := by
  unfold Obligations.ImplementedMask
  refine ⟨implMask_getLsbD, fun c hmt hfgt h5 htf h1 hspe h3 => ?_, fun c hmt hfgt h5 htf h1 hspe h3 => ?_,
    fun c old v j h2 hr hj => mdcrMerge_res0 h2 hr hj⟩
  · simp only [implMask, hmt, hfgt, h5, htf, h1, hspe, h3]
    cases c.haveEL3 <;> rfl
  · simp only [implMask, hmt, hfgt, h5, htf, h1, hspe, h3, Bool.false_and]
    rfl

/-! ### The debug fields of MDCR_EL2 -/

/-- TDRA, TDOSA, TDA and TDE exist in every implementation (10_state.md R12). -/
theorem State.mdcr_debugField (s : State) {j : Nat} (h8 : 8 ≤ j) (h11 : j ≤ 11) :
    s.mdcr.getLsbD j = s.ctl.mdcrEl2.getLsbD j := by
  have hm : (implMask s.cfg).getLsbD j = true := by
    rw [implMask_getLsbD]
    omega
  simp only [State.mdcr, BitVec.getLsbD_and, hm, Bool.and_true]

/-- A direct read gives every bit above HPMN as it is stored (40_access.md R83). -/
theorem State.mdcrRead_stored {s : State} {j : Nat} (h2 : s.cfg.haveEL2 = true) (h5 : 5 ≤ j) (hj : j < 64) :
    s.mdcrRead.getLsbD j = s.ctl.mdcrEl2.getLsbD j := by
  have hm : (0x1F#64).getLsbD j = false := by
    rw [Bool.eq_false_iff, Ne, getLsbD_word_iff (p := fun j => j ≤ 4) (by decide) (by omega)]
    omega
  unfold State.mdcrRead
  rw [h2]
  simp only [Bool.not_true, Bool.false_eq_true, if_false]
  split
  · simp only [BitVec.ofNat_eq_ofNat, BitVec.getLsbD_or, BitVec.getLsbD_and, BitVec.getLsbD_not, hm, hj, decide_true,
      Bool.not_false, Bool.and_true, Bool.and_false, Bool.or_false]
  · rfl

theorem exec_mrsMdcrEl2_open {s : State} (t : XReg) (h : s.mdcrOpen = true) :
    exec (.mrsMdcrEl2 t) s = .next ((s.setX t s.mdcrRead).advance) :=
  runMrs_access (mdcrChain_open h)

/-- Settles O26: the four fields exist in every implementation, and the read returns what is stored. -/
theorem effectiveDebugFields : Obligations.EffectiveDebugFields := by
  unfold Obligations.EffectiveDebugFields
  intro s
  refine ⟨?_, ?_, ?_, ?_, fun h2 t u j ht hopen hu h8 h11 => ?_⟩
  · simp only [State.effTde, State.tde, State.tge, s.mdcr_debugField (j := 8) (by decide) (by decide), Bool.or_eq_true,
      Bool.and_eq_true]
  · simp only [State.effTdra, State.tdra, s.mdcr_debugField (j := 11) (by decide) (by decide), Bool.or_eq_true]
  · simp only [State.effTdosa, State.tdosa, s.mdcr_debugField (j := 10) (by decide) (by decide), Bool.or_eq_true]
  · simp only [State.effTda, State.tda, s.mdcr_debugField (j := 9) (by decide) (by decide), Bool.or_eq_true]
  · cases (exec_mrsMdcrEl2_open t hopen).symm.trans hu
    have hread : (s.setX t s.mdcrRead).advance.getX t = s.mdcrRead :=
      (s.getX_setX t t s.mdcrRead).trans (if_pos ⟨rfl, ht⟩)
    rw [hread, State.mdcrRead_stored h2 (by omega) (by omega)]

end Sys2Proof.Machine
end

section
/-! SUPPORT. Noninterference of MDCR_EL2: two states that differ in it only, followed through every debug access. -/

namespace Sys2Proof.Machine

variable {s : State} {v : Word}

/-! ### What does not read MDCR_EL2 -/

@[simp] theorem State.withMdcr_ps (s : State) (v : Word) : (s.withMdcr v).ps = s.ps := rfl
@[simp] theorem State.withMdcr_inp (s : State) (v : Word) : (s.withMdcr v).inp = s.inp := rfl
@[simp] theorem State.withMdcr_cfg (s : State) (v : Word) : (s.withMdcr v).cfg = s.cfg := rfl
@[simp] theorem State.withMdcr_a64EL2 (s : State) (v : Word) : (s.withMdcr v).a64EL2 = s.a64EL2 := rfl
@[simp] theorem State.withMdcr_a32EL2 (s : State) (v : Word) : (s.withMdcr v).a32EL2 = s.a32EL2 := rfl
@[simp] theorem State.withMdcr_a64EL3 (s : State) (v : Word) : (s.withMdcr v).a64EL3 = s.a64EL3 := rfl
@[simp] theorem State.withMdcr_tdosa3 (s : State) (v : Word) : (s.withMdcr v).tdosa3 = s.tdosa3 := rfl
@[simp] theorem State.withMdcr_tda3 (s : State) (v : Word) : (s.withMdcr v).tda3 = s.tda3 := rfl
@[simp] theorem State.withMdcr_udccDis (s : State) (v : Word) : (s.withMdcr v).udccDis = s.udccDis := rfl
@[simp] theorem State.withMdcr_tge (s : State) (v : Word) : (s.withMdcr v).tge = s.tge := rfl
@[simp] theorem State.withMdcr_fgt1 (s : State) (v : Word) (r : Bool) (b : Nat) :
    (s.withMdcr v).fgt1 r b = s.fgt1 r b := rfl
@[simp] theorem State.withMdcr_condPassed (s : State) (v : Word) (c : Cond) :
    (s.withMdcr v).condPassed c = s.condPassed c := rfl

@[simp] theorem dccTail_withMdcr (s : State) (v : Word) : dccTail (s.withMdcr v) = dccTail s := rfl
@[simp] theorem tdaTail_withMdcr (s : State) (v : Word) (d : Decision) : tdaTail (s.withMdcr v) d = tdaTail s d := rfl
@[simp] theorem dcc32Tail_withMdcr (s : State) (v : Word) (b : Bool) : dcc32Tail b (s.withMdcr v) = dcc32Tail b s := rfl

/-! ### The chains where MDCR_EL2 is idle -/

/-- The places where no field of MDCR_EL2 acts on a debug access (10_state.md R32, 60_exceptions.md R220). -/
def State.MdcrIdle (s : State) : Prop := s.ps.el = .el2 ∨ s.ps.el = .el3 ∨ s.el2Enabled = false

/-- At EL0 and EL1 every field acts through EL2, which is then not enabled. -/
theorem State.MdcrIdle.guest (h : s.MdcrIdle) (he : s.ps.el = .el0 ∨ s.ps.el = .el1) :
    s.a64EL2 = false ∧ s.a32EL2 = false := by
  have h2 : s.el2Enabled = false := by
    rcases h with h | h | h
    · simp [h] at he
    · simp [h] at he
    · exact h
  exact ⟨by rw [State.a64EL2, h2, Bool.false_and], by rw [State.a32EL2, h2, Bool.false_and]⟩

theorem dccEl1_withMdcr (h : s.a64EL2 = false) : dccEl1 (s.withMdcr v) = dccEl1 s := by
  simp [dccEl1, h]

theorem dccEl0_withMdcr (h : s.a64EL2 = false) : dccEl0 (s.withMdcr v) = dccEl0 s := by
  simp [dccEl0, h]

theorem dccUserChain_withMdcr (h : s.MdcrIdle) : dccUserChain (s.withMdcr v) = dccUserChain s := by
  unfold dccUserChain
  rw [State.withMdcr_ps]
  cases he : s.ps.el with
  | el0 => exact dccEl0_withMdcr (h.guest (.inl he)).1
  | el1 => exact dccEl1_withMdcr (h.guest (.inr he)).1
  | el2 => rfl
  | el3 => rfl

theorem dccChain_withMdcr (h : s.MdcrIdle) : dccChain (s.withMdcr v) = dccChain s := by
  unfold dccChain
  rw [State.withMdcr_ps]
  cases he : s.ps.el with
  | el0 => rfl
  | el1 => exact dccEl1_withMdcr (h.guest (.inr he)).1
  | el2 => rfl
  | el3 => rfl

theorem dtrChain_withMdcr (h : s.MdcrIdle) : dtrChain (s.withMdcr v) = dtrChain s := by
  simp [dtrChain, dccUserChain_withMdcr h]

theorem tdaChain_withMdcr (h : s.MdcrIdle) (read : Bool) (b : Nat) (acc acc' : Decision) :
    tdaChain read b acc acc' (s.withMdcr v) = tdaChain read b acc acc' s := by
  unfold tdaChain
  rw [State.withMdcr_ps]
  cases he : s.ps.el with
  | el0 => rfl
  | el1 => simp [h.guest (.inr he)]
  | el2 => rfl
  | el3 => rfl

theorem mdscrChain_withMdcr (h : s.MdcrIdle) (read : Bool) : mdscrChain read (s.withMdcr v) = mdscrChain read s :=
  tdaChain_withMdcr h read 4 _ _

theorem breakChain_withMdcr (h : s.MdcrIdle) (read : Bool) (b : Nat) (n : BitVec 4) (count : Nat) :
    breakChain read b n count (s.withMdcr v) = breakChain read b n count s := by
  unfold breakChain
  simp only [tdaChain_withMdcr h]
  rfl

theorem mdrarChain_withMdcr (h : s.MdcrIdle) : mdrarChain (s.withMdcr v) = mdrarChain s := by
  unfold mdrarChain
  rw [State.withMdcr_ps]
  cases he : s.ps.el with
  | el0 => rfl
  | el1 => simp [h.guest (.inr he)]
  | el2 => rfl
  | el3 => rfl

theorem tdosaChain_withMdcr (h : s.MdcrIdle) (read : Bool) (b : Nat) (cf c2 c3 : Bool) :
    tdosaChain read b cf c2 c3 (s.withMdcr v) = tdosaChain read b cf c2 c3 s := by
  unfold tdosaChain
  rw [State.withMdcr_ps]
  cases he : s.ps.el with
  | el0 => rfl
  | el1 => simp [h.guest (.inr he)]
  | el2 => rfl
  | el3 => rfl

theorem tda32Chain_withMdcr (h : s.MdcrIdle) : tda32Chain (s.withMdcr v) = tda32Chain s := by
  unfold tda32Chain
  rw [State.withMdcr_ps]
  cases he : s.ps.el with
  | el0 => rfl
  | el1 => simp [h.guest (.inr he)]
  | el2 => rfl
  | el3 => rfl

theorem break32Chain_withMdcr (h : s.MdcrIdle) (n : BitVec 4) (count : Nat) :
    break32Chain n count (s.withMdcr v) = break32Chain n count s := by
  simp only [break32Chain, tda32Chain_withMdcr h]

theorem dcc32El1_withMdcr (h : s.a64EL2 = false ∧ s.a32EL2 = false) (dcc : Bool) :
    dcc32El1 dcc (s.withMdcr v) = dcc32El1 dcc s := by
  simp [dcc32El1, h]

theorem dcc32Chain_withMdcr (h : s.MdcrIdle) : dcc32Chain (s.withMdcr v) = dcc32Chain s := by
  unfold dcc32Chain
  rw [State.withMdcr_ps]
  cases he : s.ps.el with
  | el0 => rfl
  | el1 => exact dcc32El1_withMdcr (h.guest (.inr he)) true
  | el2 => rfl
  | el3 => rfl

theorem dcc32UserChain_withMdcr (h : s.MdcrIdle) (dcc : Bool) :
    dcc32UserChain dcc (s.withMdcr v) = dcc32UserChain dcc s := by
  unfold dcc32UserChain
  rw [State.withMdcr_ps]
  cases he : s.ps.el with
  | el0 => simp [user32First, h.guest (.inl he)]
  | el1 => exact dcc32El1_withMdcr (h.guest (.inr he)) dcc
  | el2 => rfl
  | el3 => rfl

theorem dtr32Chain_withMdcr (h : s.MdcrIdle) : dtr32Chain (s.withMdcr v) = dtr32Chain s := by
  simp [dtr32Chain, dcc32UserChain_withMdcr h]

theorem tdra32Chain_withMdcr (h : s.MdcrIdle) : tdra32Chain (s.withMdcr v) = tdra32Chain s := by
  unfold tdra32Chain
  rw [State.withMdcr_ps]
  cases he : s.ps.el with
  | el0 => simp [user32First, h.guest (.inl he)]
  | el1 => simp [h.guest (.inr he)]
  | el2 => rfl
  | el3 => rfl

theorem tdosa32Chain_withMdcr (h : s.MdcrIdle) (c2 c3 : Bool) :
    tdosa32Chain c2 c3 (s.withMdcr v) = tdosa32Chain c2 c3 s := by
  unfold tdosa32Chain
  rw [State.withMdcr_ps]
  cases he : s.ps.el with
  | el0 => rfl
  | el1 => simp [h.guest (.inr he)]
  | el2 => rfl
  | el3 => rfl

/-! ### The operations commute with a change of MDCR_EL2 -/

theorem State.take_withMdcr (s : State) (v : Word) (T : EL) (esr : Word) :
    (s.withMdcr v).take T esr = (s.take T esr).withMdcr v := by
  have ha : (s.withMdcr v).elA32 T = s.elA32 T := by cases T <;> rfl
  unfold State.take
  rw [ha]
  split
  · split <;> rfl
  · cases T <;> rfl

theorem State.takeUndefined_withMdcr (s : State) (v : Word) :
    (s.withMdcr v).takeUndefined = s.takeUndefined.withMdcr v := s.take_withMdcr v _ _

theorem State.takeTrap_withMdcr (s : State) (v : Word) (T : EL) (ec : BitVec 6) (iss : BitVec 25) :
    (s.withMdcr v).takeTrap T ec iss = (s.takeTrap T ec iss).withMdcr v := s.take_withMdcr v _ _

theorem State.takeDecision32_withMdcr (s : State) (v : Word) (ec : BitVec 6) (iss : BitVec 25) (d : Decision32) :
    (s.withMdcr v).takeDecision32 ec iss d = (s.takeDecision32 ec iss d).withMdcr v := by
  cases d with
  | undefined => exact s.takeUndefined_withMdcr v
  | trap T => exact s.takeTrap_withMdcr v T ec iss
  | _ => rfl

theorem State.setR_withMdcr (s : State) (v : Word) (t : RReg) (w : Word32) :
    (s.withMdcr v).setR t w = (s.setR t w).withMdcr v := by
  unfold State.setR
  split <;> rfl

theorem State.memWriteBack_withMdcr (s : State) (v : Word) (m : MemOperand) (w : Word32) :
    (s.withMdcr v).memWriteBack m w = (s.memWriteBack m w).withMdcr v := by
  unfold State.memWriteBack
  split
  · exact s.setR_withMdcr v m.rn w
  · rfl

theorem State.setBytes_withMdcr (s : State) (v a : Word) (bs : List Byte) :
    (s.withMdcr v).setBytes a bs = (s.setBytes a bs).withMdcr v := by
  induction bs generalizing s a with
  | nil => rfl
  | cons b rest ih => exact ih (s.setByte a b) (a + 1)

theorem State.bytesAt_withMdcr (s : State) (v a : Word) (k : Nat) :
    (s.withMdcr v).bytesAt a k = s.bytesAt a k := by
  induction k generalizing a with
  | zero => rfl
  | succ k ih => exact congrArg (s.byteAt a :: ·) (ih (a + 1))

theorem State.store_withMdcr (s : State) (v : Word) (big : Bool) (a : Word) (k w : Nat) :
    (s.withMdcr v).store big a k w = (s.store big a k w).withMdcr v := s.setBytes_withMdcr v a _

theorem State.load_withMdcr (s : State) (v : Word) (big : Bool) (a : Word) (k : Nat) :
    (s.withMdcr v).load big a k = s.load big a k := by
  unfold State.load
  rw [State.bytesAt_withMdcr]

theorem State.nvRead_withMdcr (s : State) (v : Word) (off : Nat) : (s.withMdcr v).nvRead off = s.nvRead off :=
  congrArg (BitVec.ofNat 64) (s.load_withMdcr v _ _ 8)

theorem State.dtrTxWrite_withMdcr (s : State) (v : Word) (w : Word32) :
    (s.withMdcr v).dtrTxWrite w = (s.dtrTxWrite w).withMdcr v := rfl

/-! ### The instruction forms -/

/-- Both runs answer a next state, and the two differ in MDCR_EL2 only. -/
def SameButMdcr (v : Word) (o o' : Host.Outcome State Fault Refusal) : Prop :=
  ∃ t, o = .next t ∧ o' = .next (t.withMdcr v)

theorem runMrs_withMdcr {e : SysEnc} {t : XReg} {d d' : Decision} {read read' : Nat → Word} {after : State → State}
    (hd : d' = d) (hr : ∀ k, read' k = read k) (ha : after (s.withMdcr v) = (after s).withMdcr v) :
    SameButMdcr v (runMrs e t d read s after) (runMrs e t d' read' (s.withMdcr v) after) := by
  refine ⟨_, rfl, congrArg Host.Outcome.next ?_⟩
  subst hd
  cases d' with
  | access k => simp only [mrsNext, hr, ha]; rfl
  | undefined => exact s.takeUndefined_withMdcr v
  | trap T => exact s.takeTrap_withMdcr v T _ _
  | nvMem off => simp only [mrsNext, State.nvRead_withMdcr]; rfl
  | _ => rfl

theorem runMsr_withMdcr {e : SysEnc} {t : XReg} {d d' : Decision} {write write' : Nat → Word → State}
    (hd : d' = d) (hw : ∀ k x, write' k x = (write k x).withMdcr v) :
    SameButMdcr v (runMsr e t d write s) (runMsr e t d' write' (s.withMdcr v)) := by
  refine ⟨_, rfl, congrArg Host.Outcome.next ?_⟩
  subst hd
  cases d' with
  | access k => simp only [msrNext, hw]; rfl
  | undefined => exact s.takeUndefined_withMdcr v
  | trap T => exact s.takeTrap_withMdcr v T _ _
  | nvMem off => exact congrArg State.advance (s.store_withMdcr v _ _ 8 _)
  | _ => rfl

theorem run32_withMdcr {c : Cond} {ec : BitVec 6} {iss : BitVec 25} {d d' : Decision32} {acc acc' : Nat → State}
    {zero zero' : State} (hd : d' = d) (ha : ∀ k, acc' k = (acc k).withMdcr v) (hz : zero' = zero.withMdcr v) :
    SameButMdcr v (run32 c ec iss d acc zero s) (run32 c ec iss d' acc' zero' (s.withMdcr v)) := by
  refine ⟨_, rfl, congrArg Host.Outcome.next ?_⟩
  subst hd hz
  unfold next32
  rw [State.withMdcr_condPassed, State.withMdcr_cfg]
  split
  · cases d' with
    | access k => exact congrArg State.advance (ha k)
    | nop => rfl
    | raz => rfl
    | _ => exact s.takeDecision32_withMdcr v ec iss _
  · split
    · exact s.takeDecision32_withMdcr v ec iss _
    · rfl

theorem runMrc_withMdcr {c : Cond} {e : CpEnc} {t : RReg} {d d' : Decision32} {read read' : Nat → Word32}
    {after : State → State} (hd : d' = d) (hr : ∀ k, read' k = read k)
    (ha : after (s.withMdcr v) = (after s).withMdcr v) :
    SameButMdcr v (runMrc c e t d read s after) (runMrc c e t d' read' (s.withMdcr v) after) :=
  run32_withMdcr hd (fun k => by rw [hr, ha, State.setR_withMdcr]) (s.setR_withMdcr v t 0)

theorem runMcr_withMdcr {c : Cond} {e : CpEnc} {t : RReg} {d d' : Decision32} {write write' : Nat → Word32 → State}
    (hd : d' = d) (hw : ∀ k x, write' k x = (write k x).withMdcr v) :
    SameButMdcr v (runMcr c e t d write s) (runMcr c e t d' write' (s.withMdcr v)) :=
  run32_withMdcr hd (fun k => hw k _) rfl

theorem runMrrc_withMdcr {c : Cond} {e : Cp64Enc} {t t2 : RReg} {d d' : Decision32} {x : Word} (hd : d' = d) :
    SameButMdcr v (runMrrc c e t t2 d x s) (runMrrc c e t t2 d' x (s.withMdcr v)) :=
  run32_withMdcr hd (fun _ => by simp only [State.setR_withMdcr]) (by simp only [State.setR_withMdcr])

theorem runLdc_withMdcr {c : Cond} {m : MemOperand} {d d' : Decision32} {write : Word32 → State → State} (hd : d' = d)
    (hw : ∀ x u, write x (u.withMdcr v) = (write x u).withMdcr v) :
    SameButMdcr v (runLdc c m d write s) (runLdc c m d' write (s.withMdcr v)) := by
  refine run32_withMdcr hd (fun _ => ?_) rfl
  rw [State.load_withMdcr, State.memWriteBack_withMdcr, hw]
  rfl

theorem runStc_withMdcr {c : Cond} {m : MemOperand} {d d' : Decision32} {x : Word32} {after : State → State}
    (hd : d' = d) (ha : ∀ u, after (u.withMdcr v) = (after u).withMdcr v) :
    SameButMdcr v (runStc c m d x after s) (runStc c m d' x after (s.withMdcr v)) := by
  refine run32_withMdcr hd (fun _ => ?_) rfl
  rw [State.store_withMdcr, ha, State.memWriteBack_withMdcr]
  rfl

/-! ### The debug accesses -/

/-- Where MDCR_EL2 is idle, a debug access runs the same whatever it holds: one line per chain and form. -/
theorem exec_withMdcr {i : Instr} (hg : i.group = .debug) (h : s.MdcrIdle) (v : Word) :
    SameButMdcr v (exec i s) (exec i (s.withMdcr v)) := by
  cases i <;> unfold exec
  case mrsMdccsrEl0 => exact runMrs_withMdcr (dccUserChain_withMdcr h) (fun _ => rfl) rfl
  case mrsMdccintEl1 | mrsOsdtrrxEl1 | mrsOsdtrtxEl1 =>
    exact runMrs_withMdcr (dccChain_withMdcr h) (fun _ => rfl) rfl
  case msrMdccintEl1 | msrOsdtrrxEl1 | msrOsdtrtxEl1 =>
    exact runMsr_withMdcr (dccChain_withMdcr h) (fun _ _ => rfl)
  case mrsDbgdtrEl0 | mrsDbgdtrrxEl0 => exact runMrs_withMdcr (dtrChain_withMdcr h) (fun _ => rfl) rfl
  case msrDbgdtrEl0 | msrDbgdtrtxEl0 => exact runMsr_withMdcr (dtrChain_withMdcr h) (fun _ _ => rfl)
  case mrsMdscrEl1 => exact runMrs_withMdcr (mdscrChain_withMdcr h _) (fun _ => rfl) rfl
  case msrMdscrEl1 => exact runMsr_withMdcr (mdscrChain_withMdcr h _) (fun _ _ => rfl)
  case mrsOseccrEl1 | mrsDbgclaimsetEl1 | mrsDbgclaimclrEl1 | mrsDbgauthstatusEl1 =>
    exact runMrs_withMdcr (tdaChain_withMdcr h _ _ _ _) (fun _ => rfl) rfl
  case msrOseccrEl1 | msrDbgclaimsetEl1 | msrDbgclaimclrEl1 =>
    exact runMsr_withMdcr (tdaChain_withMdcr h _ _ _ _) (fun _ _ => rfl)
  case mrsDbgbvrEl1 | mrsDbgbcrEl1 | mrsDbgwvrEl1 | mrsDbgwcrEl1 =>
    exact runMrs_withMdcr (breakChain_withMdcr h _ _ _ _) (fun _ => rfl) rfl
  case msrDbgbvrEl1 | msrDbgbcrEl1 | msrDbgwvrEl1 | msrDbgwcrEl1 =>
    exact runMsr_withMdcr (breakChain_withMdcr h _ _ _ _) (fun _ _ => rfl)
  case mrsMdrarEl1 => exact runMrs_withMdcr (mdrarChain_withMdcr h) (fun _ => rfl) rfl
  case mrsOslsrEl1 | mrsDbgprcrEl1 | mrsOsdlrEl1 =>
    exact runMrs_withMdcr (tdosaChain_withMdcr h _ _ _ _ _) (fun _ => rfl) rfl
  case msrOslarEl1 | msrDbgprcrEl1 | msrOsdlrEl1 =>
    exact runMsr_withMdcr (tdosaChain_withMdcr h _ _ _ _ _) (fun _ _ => rfl)
  case mrcDbgdidr | mrcDbgdscrint => exact runMrc_withMdcr (dcc32UserChain_withMdcr h _) (fun _ => rfl) rfl
  case mrcDbgdtrrxint => exact runMrc_withMdcr (dtr32Chain_withMdcr h) (fun _ => rfl) rfl
  case mcrDbgdtrtxint => exact runMcr_withMdcr (dtr32Chain_withMdcr h) (fun _ _ => rfl)
  case mrcDbgdccint | mrcDbgdtrrxext | mrcDbgdtrtxext =>
    exact runMrc_withMdcr (dcc32Chain_withMdcr h) (fun _ => rfl) rfl
  case mcrDbgdccint | mcrDbgdtrrxext | mcrDbgdtrtxext =>
    exact runMcr_withMdcr (dcc32Chain_withMdcr h) (fun _ _ => rfl)
  case mrcDbgdscrext | mrcDbgwfar | mrcDbgvcr | mrcDbgoseccr | mrcDbgclaimset | mrcDbgclaimclr | mrcDbgauthstatus |
      mrcDbgdevid | mrcDbgdevid1 | mrcDbgdevid2 =>
    exact runMrc_withMdcr (tda32Chain_withMdcr h) (fun _ => rfl) rfl
  case mcrDbgdscrext | mcrDbgwfar | mcrDbgvcr | mcrDbgoseccr | mcrDbgclaimset | mcrDbgclaimclr =>
    exact runMcr_withMdcr (tda32Chain_withMdcr h) (fun _ _ => rfl)
  case mrcDbgbvr | mrcDbgbcr | mrcDbgwvr | mrcDbgwcr | mrcDbgbxvr =>
    exact runMrc_withMdcr (break32Chain_withMdcr h _ _) (fun _ => rfl) rfl
  case mcrDbgbvr | mcrDbgbcr | mcrDbgwvr | mcrDbgwcr | mcrDbgbxvr =>
    exact runMcr_withMdcr (break32Chain_withMdcr h _ _) (fun _ _ => rfl)
  case mrcDbgdrar | mrcDbgdsar => exact runMrc_withMdcr (tdra32Chain_withMdcr h) (fun _ => rfl) rfl
  case mrcDbgoslsr | mrcDbgprcr | mrcDbgosdlr =>
    exact runMrc_withMdcr (tdosa32Chain_withMdcr h _ _) (fun _ => rfl) rfl
  case mcrDbgoslar | mcrDbgprcr | mcrDbgosdlr =>
    exact runMcr_withMdcr (tdosa32Chain_withMdcr h _ _) (fun _ _ => rfl)
  case mrrcDbgdrar | mrrcDbgdsar => exact runMrrc_withMdcr (tdra32Chain_withMdcr h)
  case ldcDbgdtrtxint => exact runLdc_withMdcr (dtr32Chain_withMdcr h) (fun x u => u.dtrTxWrite_withMdcr v x)
  case stcDbgdtrrxint => exact runStc_withMdcr (dtr32Chain_withMdcr h) (fun _ => rfl)
  all_goals cases hg

end Sys2Proof.Machine

namespace Sys2Proof.Machine

/-- Settles O47, by two runs side by side: where EL2 cannot trap, no chain of the group reads MDCR_EL2. -/
theorem mdcrHasNoEffectAbove : Obligations.MdcrHasNoEffectAbove := by
  unfold Obligations.MdcrHasNoEffectAbove
  intro i s v hg h
  exact exec_withMdcr hg h v

end Sys2Proof.Machine
end

section
/-! SUPPORT. The memory family: a load after a store, the memory frame of an instruction, and the accesses that nested
virtualization turns into loads and stores. -/

namespace Sys2Proof.Machine

/-! ### A load after a store -/

/-- The bytes of a number, taken together again, are its low part. -/
theorem leNat_leBytes (v k : Nat) : leNat (leBytes v k) = v % 2 ^ (8 * k) := by
  induction k generalizing v with
  | zero => exact (Nat.mod_one v).symm
  | succ k ih =>
    have hpow : 2 ^ (8 * (k + 1)) = 2 ^ 8 * 2 ^ (8 * k) := by rw [Nat.mul_succ, Nat.add_comm, Nat.pow_add]
    calc leNat (leBytes v (k + 1)) = v % 2 ^ 8 + 2 ^ 8 * (v / 2 ^ 8 % 2 ^ (8 * k)) := by
          simp only [leBytes, leNat, BitVec.toNat_ofNat, ih]
          rfl
      _ = v % 2 ^ (8 * (k + 1)) := by rw [hpow, Nat.mod_mul]

/-- A run of stored bytes reads back as it was stored: no later byte of the run wraps round to an earlier one. -/
theorem State.bytesAt_setBytes (s : State) (a : Word) (bs : List Byte) (h : Memory.wf s.mem = true)
    (hl : bs.length ≤ 2 ^ 63) : (s.setBytes a bs).bytesAt a bs.length = bs := by
  induction bs generalizing s a with
  | nil => rfl
  | cons b rest ih =>
    rw [List.length_cons] at hl
    have hdist : rest.length ≤ (a - (a + 1)).toNat := by bv_omega
    have hfirst : ((s.setByte a b).setBytes (a + 1) rest).byteAt a = b := by
      rw [State.byteAt_setBytes_out _ _ _ _ hdist (by omega), State.byteAt_setByte s a a b h, if_pos rfl]
    have hrest := ih (s.setByte a b) (a + 1) (Memory.wf_write a b h) (by omega)
    exact congrArg₂ List.cons hfirst hrest

/-- A load gives back the low bytes of what a store of the same bytes put there, in either byte order. -/
theorem State.load_store (s : State) (big : Bool) (a : Word) (k v : Nat) (h : Memory.wf s.mem = true)
    (hk : k ≤ 2 ^ 63) : (s.store big a k v).load big a k = v % 2 ^ (8 * k) := by
  have hbytes : ∀ bs : List Byte, bs.length = k → (s.setBytes a bs).bytesAt a k = bs := by
    rintro bs rfl
    exact s.bytesAt_setBytes a bs h hk
  cases big with
  | false =>
    have hread := hbytes (leBytes v k) (leBytes_length v k)
    exact (congrArg leNat hread).trans (leNat_leBytes v k)
  | true =>
    have hread := hbytes (leBytes v k).reverse (by rw [List.length_reverse, leBytes_length])
    calc (s.store true a k v).load true a k = leNat (leBytes v k).reverse.reverse :=
          congrArg (fun bs : List Byte => leNat bs.reverse) hread
      _ = v % 2 ^ (8 * k) := by rw [List.reverse_reverse, leNat_leBytes]

/-- Settles O55: the laws of a store, of which the last one is the frame. -/
theorem loadAfterStore : Obligations.LoadAfterStore := by
  unfold Obligations.LoadAfterStore
  intro s big a k v h hk
  have hk63 : k ≤ 2 ^ 63 := by omega
  exact ⟨s.load_store big a k v h hk63, s.store_wf big a k v h, fun b hb => s.byteAt_store_out big a b k v hb hk63⟩

/-! ### The memory frame -/

theorem State.sameMemory_of_mem {s t : State} (h : t.mem = s.mem) : s.sameMemory t := fun a => by
  rw [State.byteAt, h, State.byteAt]

theorem State.sameMemory.but {s t : State} (h : s.sameMemory t) (a : Word) (k : Nat) : s.sameMemoryBut t a k :=
  fun b _ => h b

/-- An exception entry is no store. -/
theorem State.Raises.sameMemory {s t : State} (h : s.Raises t) : s.sameMemory t := by
  obtain ⟨T, hent, -⟩ := h.entered
  exact State.sameMemory_of_mem (by rw [hent.frame])

/-- Settles O12: an exception and a halt store nothing, and an access stores at `Instr.storeAt` only. -/
theorem memoryFrame : Obligations.MemoryFrame := by
  unfold Obligations.MemoryFrame
  intro i s t ht
  obtain ⟨u, hu, ho⟩ := exec_outcome i s
  cases hu.symm.trans ht
  rcases ho with hraise | rfl | ⟨u, rfl, hacc⟩
  · exact ⟨fun _ => hraise.sameMemory, fun a k _ => hraise.sameMemory.but a k⟩
  · have hsame : s.sameMemory s.halt := State.sameMemory_of_mem s.halt_mem
    exact ⟨fun _ => hsame, fun a k _ => hsame.but a k⟩
  · exact ⟨fun hnone => State.sameMemory_of_mem (hacc.memory hnone), fun a k hat => (hacc.stores (a, k) hat).2⟩

/-! ### Nested virtualization -/

theorem runMrs_nvMem {e : SysEnc} {t : XReg} {d : Decision} {read : Nat → Word} {s : State} {after : State → State}
    {off : Nat} (h : d = .nvMem off) : runMrs e t d read s after = .next (s.setX t (s.nvRead off)).advance := by
  rw [h]; rfl

theorem runMsr_nvMem {e : SysEnc} {t : XReg} {d : Decision} {write : Nat → Word → State} {s : State} {off : Nat}
    (h : d = .nvMem off) : runMsr e t d write s = .next (s.nvWrite off (s.getX t)).advance := by
  rw [h]; rfl

theorem speChain_redirectAny {s : State} {control read : Bool} {bit off : Nat} (hr : s.redirectAny = true)
    (h : s.speOpen control read bit = true) : speChain control read bit (nvThen s.nvAny off) s = .nvMem off := by
  obtain ⟨hel, hnv⟩ := redirectAny_true hr
  exact speNv_redirect h hel hnv

theorem speChain_redirectAll {s : State} {control read : Bool} {bit off : Nat} (hr : s.redirectAll = true)
    (h : s.speOpen control read bit = true) : speChain control read bit (nvThen s.nvAll off) s = .nvMem off := by
  obtain ⟨hel, hnv⟩ := redirectAll_true hr
  exact speNv_redirect h hel hnv

/-- A read that a pattern 1x1 redirects is a load (43_spe_trace.md R201, R204). -/
theorem runMrs_redirectAny {e : SysEnc} {t : XReg} {control : Bool} {bit off : Nat} {read : Nat → Word} {s : State}
    {after : State → State} (hr : s.redirectAny = true) (h : s.speOpen control true bit = true) :
    runMrs e t (speChain control true bit (nvThen s.nvAny off) s) read s after =
      .next (s.setX t (s.nvRead off)).advance :=
  runMrs_nvMem (speChain_redirectAny hr h)

/-- A write that a pattern 1x1 redirects is a store (43_spe_trace.md R201, R204). -/
theorem runMsr_redirectAny {e : SysEnc} {t : XReg} {control : Bool} {bit off : Nat} {write : Nat → Word → State}
    {s : State} (hr : s.redirectAny = true) (h : s.speOpen control false bit = true) :
    runMsr e t (speChain control false bit (nvThen s.nvAny off) s) write s =
      .next (s.nvWrite off (s.getX t)).advance :=
  runMsr_nvMem (speChain_redirectAny hr h)

/-- MDCR_EL2 is not redirected: at EL1 its access traps to EL2 (40_access.md R80, R87). -/
theorem mdcrChain_redirectAny {s : State} (hr : s.redirectAny = true) : mdcrChain s = .trap .el2 := by
  obtain ⟨hel, hnv⟩ := redirectAny_true hr
  simp only [State.nvAny, Bool.and_eq_true] at hnv
  obtain ⟨⟨h64, -⟩, hnv⟩ := hnv
  simp only [mdcrChain, hel, (a64EL2_spec h64).1, hnv, Bool.and_self, if_true]

/-- The syndrome of an access is that of the access with X0, with the number of Xt in the field at bit 5
(60_exceptions.md R228). -/
theorem iss18_eq_or (e : SysEnc) (t : XReg) (read : Bool) :
    iss18 e t read = iss18 e 0 read ||| (t.setWidth 25 <<< 5) := by
  refine BitVec.eq_of_getLsbD_eq fun j hj => ?_
  simp only [iss18, BitVec.getLsbD_or, BitVec.getLsbD_shiftLeft, BitVec.getLsbD_append]
  interval_cases j <;> simp

theorem exec_mrsMdcrEl2_redirectAny {s : State} (t : XReg) (hr : s.redirectAny = true) :
    exec (.mrsMdcrEl2 t) s = .next (s.takeTrap .el2 0x18 (0x330403 ||| (t.setWidth 25 <<< 5))) := by
  have hiss : iss18 Enc.mdcrEl2 t true = 0x330403 ||| (t.setWidth 25 <<< 5) := iss18_eq_or Enc.mdcrEl2 t true
  rw [← hiss]
  exact runMrs_trap (mdcrChain_redirectAny hr)

/-! ### CurrentEL -/

/-- At EL1 under HCR_EL2.NV, CurrentEL reads as EL2 (40_access.md R87). -/
theorem State.currentEL_el1_nv {s : State} (hnv : s.cfg.haveNV = true) (hel : s.ps.el = .el1)
    (hhcr : s.ctl.hcrEl2.getLsbD 42 = true) : s.currentEL = 8 := by
  have hview : (s.ps.el = .el1 && s.nv) = true := by
    rw [decide_eq_true hel, State.nv, hnv, hhcr]
    rfl
  rw [State.currentEL, hview]
  rfl

/-- Elsewhere, and without NV, CurrentEL reads as the level (10_state.md R36). -/
theorem State.currentEL_of_not_nv {s : State}
    (h : s.ps.el ≠ .el1 ∨ s.cfg.haveNV = false ∨ s.ctl.hcrEl2.getLsbD 42 = false) :
    s.currentEL = BitVec.ofNat 64 (s.ps.el.num * 4) := by
  have hview : (s.ps.el = .el1 && s.nv) = false := by
    rcases h with hel | hnv | hhcr
    · rw [decide_eq_false hel, Bool.false_and]
    · simp only [State.nv, hnv, Bool.false_and, Bool.and_false]
    · simp only [State.nv, hhcr, Bool.and_false]
  rw [State.currentEL, hview, Nat.mul_comm]
  rfl

/-- Settles O37: each chain decides for memory where the pattern of its register redirects; MDCR_EL2 traps first. -/
theorem nestedVirtualizationGoesToMemory : Obligations.NestedVirtualizationGoesToMemory := by
  unfold Obligations.NestedVirtualizationGoesToMemory
  intro s t
  refine ⟨fun hr h => runMrs_nvMem (mdscrChain_redirect h hr), fun hr h => runMsr_nvMem (mdscrChain_redirect h hr),
    fun hr h => runMrs_nvMem (speChain_redirectAll hr h), fun hr h => runMsr_nvMem (speChain_redirectAll hr h),
    runMrs_redirectAny, runMsr_redirectAny, runMrs_redirectAny, runMsr_redirectAny,
    runMrs_redirectAny, runMsr_redirectAny, runMrs_redirectAny, runMsr_redirectAny,
    runMrs_redirectAny, runMsr_redirectAny, runMrs_redirectAny, runMsr_redirectAny,
    runMrs_redirectAny, runMsr_redirectAny,
    fun hr h => runMrs_nvMem (trfcrChain_redirect h hr), fun hr h => runMsr_nvMem (trfcrChain_redirect h hr),
    exec_mrsMdcrEl2_redirectAny t, State.currentEL_el1_nv, State.currentEL_of_not_nv⟩

end Sys2Proof.Machine
end

section
/-! SUPPORT. The encoding family: the words of an instruction set are the words of its forms, the rows of the tables
name the instruction with their fields, and so decoding and encoding are inverse. -/

namespace Sys2Proof

open Machine Laws

/-! ### The bytes and bits of a word -/

/-- A one-bit field as the part of the word that it is. -/
theorem ofBool_getLsbD (w : Word32) (i : Nat) : BitVec.ofBool (w.getLsbD i) = w.extractLsb' i 1 := by
  refine BitVec.eq_of_getLsbD_eq fun j hj => ?_
  obtain rfl : j = 0 := by omega
  simp

/-- The bytes of a word, put together again, are the word. -/
theorem decode_bytesOfWord (isa : InstrSet) (w : Word32) : decode isa (bytesOfWord isa w) = decodeWord isa w := by
  have bytes : w.extractLsb' 24 8 ++ w.extractLsb' 16 8 ++ w.extractLsb' 8 8 ++ w.extractLsb' 0 8 = w := by
    repeat rw [BitVec.extractLsb'_append_extractLsb'_eq_extractLsb' (by rfl)]
    exact BitVec.extractLsb'_eq_self
  cases isa <;> exact congrArg (decodeWord _) bytes

/-! ### The fields of a word -/

/-- The condition field, which only the AArch32 forms have (30_encoding.md R65, R66). -/
def Form.cond : Form → Option Cond
  | .a64 _ _ _ => none
  | .cp _ c _ _ => some c
  | .cp64 _ c _ _ _ => some c
  | .ldst _ c _ _ _ _ _ => some c

theorem Instr.condField_eq (i : Instr) : i.condField = i.form.cond := rfl

theorem Instr.isA64_eq (i : Instr) : i.isA64 = i.form.cond.isNone := by
  unfold Instr.isA64
  cases i.form <;> rfl

/-- The forms whose words belong to the instruction set: of A64 those with op0 0b1x (30_encoding.md R62), of A32 all
with a condition field, of T32 those with 0b1110 there (R65). -/
def Form.InSet : InstrSet → Form → Prop
  | .a64, f => ∃ read e t, f = .a64 read e t ∧ e.op0.getLsbD 1 = true
  | .a32, f => f.cond.isSome = true
  | .t32, f => f.cond = some 14

/-- Only the A64 forms, which belong to A64 alone, have no condition field. -/
theorem Form.InSet.isNone_cond {isa : InstrSet} {f : Form} (h : f.InSet isa) : f.cond.isNone = true ↔ isa = .a64 := by
  cases isa with
  | a64 => obtain ⟨read, e, t, rfl, -⟩ := h; exact iff_of_true rfl rfl
  | a32 => exact iff_of_false (by rw [Option.isNone_eq_false_iff.2 h]; nofun) nofun
  | t32 => exact iff_of_false (by rw [show f.cond = some 14 from h]; nofun) nofun

/-- A word that has A64 fields is the word of those fields. -/
theorem parseA64_eq_some {w : Word32} {f : Form} (h : Form.parseA64 w = some f) : f.word = w ∧ f.InSet .a64 := by
  unfold Form.parseA64 at h
  split at h
  next hw =>
    obtain ⟨hop, hbit⟩ := hw
    cases h
    refine ⟨?_, _, _, _, rfl, ?_⟩
    · rw [Form.word, ← show w.extractLsb' 22 10 = 0b1101010100#10 from hop]
      simp only [bitField, ofBool_getLsbD]
      repeat rw [BitVec.extractLsb'_append_extractLsb'_eq_extractLsb' (by rfl)]
      exact BitVec.extractLsb'_eq_self
    · rw [BitVec.getLsbD_extractLsb']
      exact hbit
  next => cases h

/-- A word that has AArch32 fields is the word of those fields, with the condition on top. -/
theorem parseA32_eq_some {w : Word32} {f : Form} (h : Form.parseA32 w = some f) :
    f.word = w ∧ f.cond = some (w.extractLsb' 28 4) := by
  unfold Form.parseA32 at h
  split at h
  next hcp =>
    obtain ⟨hop, hbit⟩ := hcp
    have hbit : (1#1 : BitVec 1) = w.extractLsb' 4 1 := by rw [← ofBool_getLsbD, hbit]; rfl
    cases h
    refine ⟨?_, rfl⟩
    rw [Form.word, ← show w.extractLsb' 24 4 = 0b1110#4 from hop, hbit]
    simp only [bitField, ofBool_getLsbD]
    repeat rw [BitVec.extractLsb'_append_extractLsb'_eq_extractLsb' (by rfl)]
    exact BitVec.extractLsb'_eq_self
  next =>
    split at h
    next hop =>
      cases h
      refine ⟨?_, rfl⟩
      rw [Form.word, ← show w.extractLsb' 21 7 = 0b1100010#7 from hop]
      simp only [bitField, ofBool_getLsbD]
      repeat rw [BitVec.extractLsb'_append_extractLsb'_eq_extractLsb' (by rfl)]
      exact BitVec.extractLsb'_eq_self
    next =>
      split at h
      next hldst =>
        obtain ⟨hop, hbit, hcrd⟩ := hldst
        have hbit : (0#1 : BitVec 1) = w.extractLsb' 22 1 := by
          rw [← ofBool_getLsbD, show w.getLsbD 22 = false from Bool.not_eq_true' _ |>.mp hbit]; rfl
        cases h
        refine ⟨?_, rfl⟩
        rw [Form.word, ← show w.extractLsb' 25 3 = 0b110#3 from hop, ← show w.extractLsb' 8 8 = 0b01011110#8 from hcrd,
          hbit]
        simp only [bitField, ofBool_getLsbD]
        repeat rw [BitVec.extractLsb'_append_extractLsb'_eq_extractLsb' (by rfl)]
        exact BitVec.extractLsb'_eq_self
      next => cases h

/-- An AArch32 word has the fields it was built from (30_encoding.md R65, R66). -/
theorem parseA32_word {f : Form} (h : f.cond.isSome = true) : Form.parseA32 f.word = some f := by
  cases f with
  | a64 => cases h
  | cp read c e t => exact parseA32_word_cp ..
  | cp64 read c e t t2 => exact parseA32_word_cp64 ..
  | ldst => exact parseA32_word_ldst ..

/-- The words of an instruction set with given fields: the one word of the fields, where they belong to the set. -/
theorem Form.parse_eq_some_iff {isa : InstrSet} {w : Word32} {f : Form} :
    Form.parse isa w = some f ↔ f.word = w ∧ f.InSet isa := by
  cases isa with
  | a64 =>
    refine ⟨parseA64_eq_some, ?_⟩
    rintro ⟨rfl, read, e, t, rfl, hop0⟩
    exact parseA64_word _ _ _ _ _ _ _ hop0
  | a32 =>
    refine ⟨fun h => ?_, ?_⟩
    · obtain ⟨hw, hc⟩ := parseA32_eq_some h
      exact ⟨hw, Option.isSome_of_eq_some hc⟩
    · rintro ⟨rfl, hc⟩
      exact parseA32_word hc
  | t32 =>
    simp only [Form.parse, Option.ite_none_right_eq_some, Form.InSet]
    constructor
    · rintro ⟨hal, h⟩
      obtain ⟨hw, hc⟩ := parseA32_eq_some h
      exact ⟨hw, hc.trans (congrArg some hal)⟩
    · rintro ⟨rfl, hc⟩
      have h := parseA32_word (Option.isSome_of_eq_some hc)
      exact ⟨Option.some.inj ((parseA32_eq_some h).2.symm.trans hc), h⟩

/-! ### The tables -/

/-- The row names instructions that have its fields, in both directions and for every Rt. -/
def SysRow.Sound (r : SysRow) : Prop :=
  ∀ (read : Bool) f, (if read then r.mrs else r.msr) = some f →
    ∀ t, (f t).form = .a64 read r.enc t ∧ (f t).wellFormed = true

/-- The same for MRC and MCR. -/
def CpRow.Sound (r : CpRow) : Prop :=
  ∀ (read : Bool) f, (if read then r.mrc else r.mcr) = some f →
    ∀ c t, (f c t).form = .cp read c r.enc t ∧ (f c t).wellFormed = true

/-- The same for MRRC and MCRR. -/
def Cp64Row.Sound (r : Cp64Row) : Prop :=
  ∀ (read : Bool) f, (if read then r.mrrc else r.mcrr) = some f →
    ∀ c t t2, (f c t t2).form = .cp64 read c r.enc t t2 ∧ (f c t t2).wellFormed = true

theorem SysRow.sound_of_mem {r : SysRow} (h : r ∈ sysRows) : r.Sound := by
  have h : r ∈ sysRows1 ++ sysRows2 ++ sysRows3 := h
  simp only [List.mem_append] at h
  obtain (h | h) | h := h
  all_goals fin_cases h <;> rintro (_ | _) f ⟨⟩ t <;> exact ⟨rfl, rfl⟩

theorem CpRow.sound_of_mem {r : CpRow} (h : r ∈ cpRows) : r.Sound := by
  have h : r ∈ cpRows1 ++ cpRows2 ++ cpRows3 := h
  simp only [List.mem_append] at h
  obtain (h | h) | h := h
  all_goals fin_cases h <;> rintro (_ | _) f ⟨⟩ c t <;> exact ⟨rfl, rfl⟩

theorem Cp64Row.sound_of_mem {r : Cp64Row} (h : r ∈ cp64Rows) : r.Sound := by
  fin_cases h <;> rintro (_ | _) f ⟨⟩ c t t2 <;> exact ⟨rfl, rfl⟩

/-! ### The indexed registers -/

/-- Op2 of a breakpoint or watchpoint register, 4 to 7, says which of the four it is (30_encoding.md section 5.1). -/
theorem indexedOp2_cases : ∀ op2 : BitVec 3, 4 ≤ op2.toNat → op2 = 4 ∨ op2 = 5 ∨ op2 = 6 ∨ op2 = 7 := by decide

/-- CRm of an event counter register is 0b10 above the two high bits of its number (30_encoding.md section 5.1). -/
theorem counterGroup_append : ∀ crm : BitVec 4, crm.getLsbD 3 = true → crm.getLsbD 2 = false →
    2#2 ++ crm.extractLsb' 0 2 = crm := by decide

/-- CRm of an event type register is 0b11 above the two high bits of its number (30_encoding.md section 5.1). -/
theorem typeGroup_append : ∀ crm : BitVec 4, crm.getLsbD 3 = true → crm.getLsbD 2 = true →
    3#2 ++ crm.extractLsb' 0 2 = crm := by decide

section CounterFields

variable {crm : BitVec 4} {op2 : BitVec 3}

theorem Enc.pmevcntrEl0_append (h3 : crm.getLsbD 3 = true) (h2 : crm.getLsbD 2 = false) :
    Enc.pmevcntrEl0 (crm.extractLsb' 0 2 ++ op2) = ⟨3, 3, 14, crm, op2⟩ := by
  rw [Enc.pmevcntrEl0, BitVec.extractLsb'_append_eq_left, BitVec.extractLsb'_append_eq_right,
    counterGroup_append crm h3 h2]

theorem Enc.pmevtyperEl0_append (h3 : crm.getLsbD 3 = true) (h2 : crm.getLsbD 2 = true) :
    Enc.pmevtyperEl0 (crm.extractLsb' 0 2 ++ op2) = ⟨3, 3, 14, crm, op2⟩ := by
  rw [Enc.pmevtyperEl0, BitVec.extractLsb'_append_eq_left, BitVec.extractLsb'_append_eq_right,
    typeGroup_append crm h3 h2]

theorem Enc32.pmevcntr_append (h3 : crm.getLsbD 3 = true) (h2 : crm.getLsbD 2 = false) :
    Enc32.pmevcntr (crm.extractLsb' 0 2 ++ op2) = ⟨15, 0, 14, crm, op2⟩ := by
  rw [Enc32.pmevcntr, BitVec.extractLsb'_append_eq_left, BitVec.extractLsb'_append_eq_right,
    counterGroup_append crm h3 h2]

theorem Enc32.pmevtyper_append (h3 : crm.getLsbD 3 = true) (h2 : crm.getLsbD 2 = true) :
    Enc32.pmevtyper (crm.extractLsb' 0 2 ++ op2) = ⟨15, 0, 14, crm, op2⟩ := by
  rw [Enc32.pmevtyper, BitVec.extractLsb'_append_eq_left, BitVec.extractLsb'_append_eq_right,
    typeGroup_append crm h3 h2]

end CounterFields

/-- The indexed AArch64 registers decode to instructions with their fields (30_encoding.md section 5.1). -/
theorem indexedSys_eq_instr {read : Bool} {e : SysEnc} {t : XReg} {w : Word32} {i : Instr}
    (h : indexedSys read e t w = .instr i) : i.form = .a64 read e t ∧ i.wellFormed = true := by
  obtain ⟨op0, op1, crn, crm, op2⟩ := e
  unfold indexedSys at h
  split at h
  next hdebug =>
    obtain ⟨rfl, rfl, rfl, hop2⟩ := hdebug
    obtain rfl | rfl | rfl | rfl := indexedOp2_cases op2 hop2 <;> cases read <;> cases h <;> exact ⟨rfl, rfl⟩
  next =>
    split at h
    next hcounter =>
      obtain ⟨rfl, rfl, rfl, h3⟩ := hcounter
      dsimp only at h
      split at h
      next => cases h
      next hn =>
        have hwf : counterNumber (crm.extractLsb' 0 2 ++ op2) = true := bne_iff_ne.2 hn
        split at h <;> cases h
        next h2 => exact ⟨congrArg (Form.a64 true · t) (Enc.pmevcntrEl0_append h3 h2), hwf⟩
        next h2 => exact ⟨congrArg (Form.a64 false · t) (Enc.pmevcntrEl0_append h3 h2), hwf⟩
        next h2 => exact ⟨congrArg (Form.a64 true · t) (Enc.pmevtyperEl0_append h3 h2), hwf⟩
        next h2 => exact ⟨congrArg (Form.a64 false · t) (Enc.pmevtyperEl0_append h3 h2), hwf⟩
    next => cases h

/-- The indexed AArch32 registers decode to instructions with their fields (30_encoding.md section 5.2). -/
theorem indexedCp_eq_instr {read : Bool} {c : Cond} {e : CpEnc} {t : RReg} {w : Word32} {i : Instr}
    (h : indexedCp read c e t w = .instr i) : i.form = .cp read c e t ∧ i.wellFormed = true := by
  obtain ⟨coproc, opc1, crn, crm, opc2⟩ := e
  unfold indexedCp at h
  split at h
  next hdebug =>
    obtain ⟨rfl, rfl, rfl, hop2⟩ := hdebug
    obtain rfl | rfl | rfl | rfl := indexedOp2_cases opc2 hop2 <;> cases read <;> cases h <;> exact ⟨rfl, rfl⟩
  next =>
    split at h
    next hbxvr =>
      obtain ⟨rfl, rfl, rfl, rfl⟩ := hbxvr
      cases read <;> cases h <;> exact ⟨rfl, rfl⟩
    next =>
      split at h
      next hcounter =>
        obtain ⟨rfl, rfl, rfl, h3⟩ := hcounter
        dsimp only at h
        split at h
        next => cases h
        next hn =>
          have hwf : counterNumber (crm.extractLsb' 0 2 ++ opc2) = true := bne_iff_ne.2 hn
          split at h <;> cases h
          next h2 => exact ⟨congrArg (Form.cp true c · t) (Enc32.pmevcntr_append h3 h2), hwf⟩
          next h2 => exact ⟨congrArg (Form.cp false c · t) (Enc32.pmevcntr_append h3 h2), hwf⟩
          next h2 => exact ⟨congrArg (Form.cp true c · t) (Enc32.pmevtyper_append h3 h2), hwf⟩
          next h2 => exact ⟨congrArg (Form.cp false c · t) (Enc32.pmevtyper_append h3 h2), hwf⟩
      next => cases h

/-! ### Decoding and encoding -/

/-- The fields of an instruction decode to it: the tables by evaluation, the indexed registers number by number. -/
theorem Instr.encoding (i : Instr) : Encoding.Statement i := by
  cases i with
  | mrsDbgbvrEl1 n t => exact Encoding.mrsDbgbvrEl1 n t
  | mrsDbgbcrEl1 n t => exact Encoding.mrsDbgbcrEl1 n t
  | mrsDbgwvrEl1 n t => exact Encoding.mrsDbgwvrEl1 n t
  | mrsDbgwcrEl1 n t => exact Encoding.mrsDbgwcrEl1 n t
  | mrsPmevcntrEl0 n t => exact Encoding.mrsPmevcntrEl0 n t
  | mrsPmevtyperEl0 n t => exact Encoding.mrsPmevtyperEl0 n t
  | msrDbgbvrEl1 n t => exact Encoding.msrDbgbvrEl1 n t
  | msrDbgbcrEl1 n t => exact Encoding.msrDbgbcrEl1 n t
  | msrDbgwvrEl1 n t => exact Encoding.msrDbgwvrEl1 n t
  | msrDbgwcrEl1 n t => exact Encoding.msrDbgwcrEl1 n t
  | msrPmevcntrEl0 n t => exact Encoding.msrPmevcntrEl0 n t
  | msrPmevtyperEl0 n t => exact Encoding.msrPmevtyperEl0 n t
  | mrcDbgbvr c n t => exact Encoding.mrcDbgbvr c n t
  | mrcDbgbcr c n t => exact Encoding.mrcDbgbcr c n t
  | mrcDbgwvr c n t => exact Encoding.mrcDbgwvr c n t
  | mrcDbgwcr c n t => exact Encoding.mrcDbgwcr c n t
  | mrcDbgbxvr c n t => exact Encoding.mrcDbgbxvr c n t
  | mrcPmevcntr c n t => exact Encoding.mrcPmevcntr c n t
  | mrcPmevtyper c n t => exact Encoding.mrcPmevtyper c n t
  | mcrDbgbvr c n t => exact Encoding.mcrDbgbvr c n t
  | mcrDbgbcr c n t => exact Encoding.mcrDbgbcr c n t
  | mcrDbgwvr c n t => exact Encoding.mcrDbgwvr c n t
  | mcrDbgwcr c n t => exact Encoding.mcrDbgwcr c n t
  | mcrDbgbxvr c n t => exact Encoding.mcrDbgbxvr c n t
  | mcrPmevcntr c n t => exact Encoding.mcrPmevcntr c n t
  | mcrPmevtyper c n t => exact Encoding.mcrPmevtyper c n t
  | _ => exact fun _ _ => rfl

/-- Fields decode to an instruction that has them: a row of a table, or an indexed register. -/
theorem Form.decode_sound {f : Form} {w : Word32} {i : Instr} (h : f.decode w = .instr i) :
    i.form = f ∧ i.wellFormed = true := by
  cases f with
  | a64 read e t =>
    simp only [Form.decode] at h
    split at h
    next r hr =>
      obtain rfl : r.enc = e := by simpa using List.find?_some hr
      split at h <;> cases h
      next f hf => exact SysRow.sound_of_mem (List.mem_of_find?_eq_some hr) read f hf t
    next => exact indexedSys_eq_instr h
  | cp read c e t =>
    simp only [Form.decode] at h
    split at h
    next r hr =>
      obtain rfl : r.enc = e := by simpa using List.find?_some hr
      split at h <;> cases h
      next f hf => exact CpRow.sound_of_mem (List.mem_of_find?_eq_some hr) read f hf c t
    next => exact indexedCp_eq_instr h
  | cp64 read c e t t2 =>
    simp only [Form.decode] at h
    split at h
    next r hr =>
      obtain rfl : r.enc = e := by simpa using List.find?_some hr
      split at h <;> cases h
      next f hf => exact Cp64Row.sound_of_mem (List.mem_of_find?_eq_some hr) read f hf c t t2
    next => cases h
  | ldst load => cases load <;> cases h <;> exact ⟨rfl, rfl⟩

/-- The tables are the inverse of the fields of an instruction (30_encoding.md R71). -/
theorem Form.decode_eq_instr_iff {f : Form} {w : Word32} {i : Instr} :
    f.decode w = .instr i ↔ i.form = f ∧ i.wellFormed = true := by
  refine ⟨Form.decode_sound, ?_⟩
  rintro ⟨rfl, hwf⟩
  exact i.encoding hwf w

/-- Decoding is the inverse of encoding: it answers exactly the well-formed instruction of the set with that word. -/
theorem decodeWord_eq_instr_iff {isa : InstrSet} {w : Word32} {i : Instr} :
    decodeWord isa w = .instr i ↔ encode i = w ∧ i.wellFormed = true ∧ i.form.InSet isa := by
  constructor
  · intro h
    unfold decodeWord at h
    split at h
    next f hf =>
      obtain ⟨rfl, hwf⟩ := Form.decode_eq_instr_iff.1 h
      obtain ⟨hw, hset⟩ := Form.parse_eq_some_iff.1 hf
      exact ⟨hw, hwf, hset⟩
    next => cases h
  · rintro ⟨hw, hwf, hset⟩
    rw [decodeWord, Form.parse_eq_some_iff.2 ⟨hw, hset⟩]
    exact i.encoding hwf w

/-- Op0 of every A64 instruction is 0b1x: bit 20 of an MRS or MSR word is 1 (30_encoding.md R62). -/
theorem Instr.form_op0 {i : Instr} {read : Bool} {e : SysEnc} {t : XReg} (h : i.form = .a64 read e t) :
    e.op0.getLsbD 1 = true := by
  have hop0 : e.op0 = 2 ∨ e.op0 = 3 := by cases i <;> cases h <;> first | exact .inl rfl | exact .inr rfl
  obtain hop0 | hop0 := hop0 <;> rw [hop0] <;> rfl

/-- The word of an instruction belongs to the instruction's own set. -/
theorem Instr.form_inSet (i : Instr) : i.form.InSet i.instrSet := by
  unfold Instr.instrSet
  rw [Instr.isA64_eq]
  cases hf : i.form with
  | a64 read e t => exact ⟨read, e, t, rfl, Instr.form_op0 hf⟩
  | cp => rfl
  | cp64 => rfl
  | ldst => rfl

theorem decodeWord_encode {i : Instr} (h : i.wellFormed = true) : decodeWord i.instrSet (encode i) = .instr i :=
  decodeWord_eq_instr_iff.2 ⟨rfl, h, i.form_inSet⟩

/-- Settles O1: the word of an instruction is of its own set, and with condition field 0b1110 of T32 too. -/
theorem decodeInvertsEncode : Obligations.DecodeInvertsEncode := by
  unfold Obligations.DecodeInvertsEncode
  intro i hwf
  refine ⟨?_, fun hc => ?_⟩
  · rw [encodeBytes, decode_bytesOfWord, decodeWord_encode hwf]
  · rw [Instr.condField_eq] at hc
    rw [decode_bytesOfWord]
    exact decodeWord_eq_instr_iff.2 ⟨rfl, hwf, hc⟩

/-- Settles O2: the inverse, read from right to left. -/
theorem encodeInvertsDecode : Obligations.EncodeInvertsDecode := by
  unfold Obligations.EncodeInvertsDecode
  intro isa w i h
  obtain ⟨hw, hwf, hset⟩ := decodeWord_eq_instr_iff.1 h
  rw [Instr.isA64_eq]
  exact ⟨hw, hwf, hset.isNone_cond⟩

/-- Settles O3: each word is the encoding of the instruction. -/
theorem workedExampleWordsDecode : Obligations.WorkedExampleWordsDecode :=
  ⟨decodeWord_encode (i := .mrsMdcrEl2 3) rfl, decodeWord_encode (i := .msrMdcrEl2 0) rfl,
    decodeWord_encode (i := .mrsDbgbvrEl1 5 0) rfl, decodeWord_encode (i := .msrDbgbcrEl1 3 1) rfl,
    decodeWord_encode (i := .mrsDbgwcrEl1 15 0) rfl, decodeWord_encode (i := .mrsPmcntensetEl0 3) rfl,
    decodeWord_encode (i := .mrsPmevcntrEl0 6 1) rfl, decodeWord_encode (i := .mrsPmccfiltrEl0 0) rfl,
    decodeWord_encode (i := .mrsPmscrEl1 4) rfl, decodeWord_encode (i := .msrPmblimitrEl1 7) rfl,
    decodeWord_encode (i := .mrsTrfcrEl1 9) rfl, decodeWord_encode (i := .mrcHdcr 14 2) rfl,
    decodeWord_encode (i := .mcrHdcr 14 1) rfl, decodeWord_encode (i := .mrcPmcntenset 14 2) rfl⟩

/-! ### Unallocated encodings -/

/-- An MRS or MSR word is the word for X0 with the number of Xt in its low bits (30_encoding.md R63). -/
theorem a64_word_eq_or (read : Bool) (e : SysEnc) (t : XReg) :
    (Form.a64 read e t).word = (Form.a64 read e 0).word ||| t.setWidth 32 := by
  refine BitVec.eq_of_getLsbD_eq fun j hj => ?_
  simp only [Form.word, BitVec.getLsbD_or, BitVec.getLsbD_append]
  interval_cases j <;> simp

/-- A direction that the tables do not allocate is unallocated for every Rt (30_encoding.md R68). -/
theorem decodeWord_unallocated {read : Bool} {e : SysEnc} (hop0 : e.op0.getLsbD 1 = true)
    (h : ∀ t w, (Form.a64 read e t).decode w = .unallocated w) (t : XReg) :
    decodeWord .a64 ((Form.a64 read e 0).word ||| t.setWidth 32)
      = .unallocated ((Form.a64 read e 0).word ||| t.setWidth 32) := by
  have hset : (Form.a64 read e t).InSet .a64 := ⟨read, e, t, rfl, hop0⟩
  rw [← a64_word_eq_or, decodeWord, Form.parse_eq_some_iff.2 ⟨rfl, hset⟩]
  exact h t _

theorem stepInstr_of_unallocated {s : State} {w : Word32} (ha : s.pcAligned = true) (hf : s.fetch = .unallocated w) :
    stepInstr s = .next (runUnallocated w s) := by
  simp only [stepInstr, ha, hf, Bool.not_true, Bool.false_eq_true, if_false]

theorem runUnallocated_eq_takeUndefined {w : Word32} {s : State}
    (h : s.ps.nRW = false ∨ s.condPassed (w.extractLsb' 28 4) = true) : runUnallocated w s = s.takeUndefined := by
  obtain h | h := h <;> simp [runUnallocated, h]

theorem runUnallocated_eq_advance {w : Word32} {s : State} (hnrw : s.ps.nRW = true)
    (hc : s.condPassed (w.extractLsb' 28 4) = false) : runUnallocated w s = s.advance := by
  simp [runUnallocated, hnrw, hc]

/-- Settles O4: each word is a row's selector in the missing direction; the step then runs no instruction. -/
theorem unallocatedDirectionsAreUndefined : Obligations.UnallocatedDirectionsAreUndefined := by
  unfold Obligations.UnallocatedDirectionsAreUndefined
  refine ⟨fun t => ?_, fun s w he ha hf => ?_⟩
  · exact ⟨decodeWord_unallocated (read := false) (e := Enc.mdccsrEl0) rfl (fun _ _ => rfl) t,
      decodeWord_unallocated (read := false) (e := Enc.mdrarEl1) rfl (fun _ _ => rfl) t,
      decodeWord_unallocated (read := false) (e := Enc.oslsrEl1) rfl (fun _ _ => rfl) t,
      decodeWord_unallocated (read := false) (e := Enc.dbgauthstatusEl1) rfl (fun _ _ => rfl) t,
      decodeWord_unallocated (read := false) (e := Enc.pmceid0El0) rfl (fun _ _ => rfl) t,
      decodeWord_unallocated (read := false) (e := Enc.pmceid1El0) rfl (fun _ _ => rfl) t,
      decodeWord_unallocated (read := false) (e := Enc.pmmirEl1) rfl (fun _ _ => rfl) t,
      decodeWord_unallocated (read := false) (e := Enc.pmsidrEl1) rfl (fun _ _ => rfl) t,
      decodeWord_unallocated (read := true) (e := Enc.oslarEl1) rfl (fun _ _ => rfl) t,
      decodeWord_unallocated (read := true) (e := Enc.pmswincEl0) rfl (fun _ _ => rfl) t⟩
  · have hstep : step s = .next (runUnallocated w s).tick := by
      rw [step_of_no_events he, stepInstr_of_unallocated ha hf]
      rfl
    rw [hstep]
    exact ⟨fun h => by rw [runUnallocated_eq_takeUndefined h], fun hnrw hc => by rw [runUnallocated_eq_advance hnrw hc]⟩

end Sys2Proof
end

section
/-! SUPPORT. The access family: MDCR_EL2 and HDCR level by level, what is stored and what is read, and the frame of the
System registers. -/

namespace Sys2Proof.Machine

/-! ### The frame of the System registers -/

/-- Settles O15, from the outcome of the instruction: an exception and a halt leave the System registers alone, and an
access changes those of its group. -/
theorem systemRegisterFrame : Obligations.SystemRegisterFrame := by
  unfold Obligations.SystemRegisterFrame
  intro i s t ht
  obtain ⟨u, hu, ho⟩ := exec_outcome i s
  cases hu.symm.trans ht
  rcases ho with hraise | rfl | ⟨u, rfl, ha⟩
  · obtain ⟨T, hent, -⟩ := hraise.entered
    rw [hent.frame]
    exact ⟨fun _ => rfl, rfl, fun _ => rfl, fun _ => rfl, fun _ => rfl, rfl, rfl, rfl⟩
  · exact ⟨fun _ => rfl, rfl, fun _ => rfl, fun _ => rfl, fun _ => rfl, rfl, rfl, rfl⟩
  · have hinp : u.inp = { s.inp with halted := u.inp.halted } := by rw [ha.inp]
    exact ⟨ha.control, ha.controls, ha.debug, ha.pmu, ha.profiling, ha.cfg, ha.events, hinp⟩

/-! ### The checks of MDCR_EL2 (40_access.md R80, R81) -/

theorem iss18_mdcrEl2_read (t : XReg) : iss18 Enc.mdcrEl2 t true = 0x330403 ||| (t.setWidth 25 <<< 5) :=
  iss18_eq_or Enc.mdcrEl2 t true

theorem iss18_mdcrEl2_write (t : XReg) : iss18 Enc.mdcrEl2 t false = 0x330402 ||| (t.setWidth 25 <<< 5) :=
  iss18_eq_or Enc.mdcrEl2 t false

section Checks

variable {s : State}

theorem mdcrChain_el0 (he : s.ps.el = .el0) : mdcrChain s = .undefined := by
  simp only [mdcrChain, he]

theorem mdcrChain_el1_trap (he : s.ps.el = .el1) (h2 : s.el2Enabled = true) (hnv : s.cfg.haveNV = true)
    (h42 : s.ctl.hcrEl2.getLsbD 42 = true) : mdcrChain s = .trap .el2 := by
  simp [mdcrChain, he, h2, State.nv, hnv, h42]

theorem mdcrChain_el1_undefined (he : s.ps.el = .el1)
    (h : ¬(s.el2Enabled = true ∧ s.cfg.haveNV = true ∧ s.ctl.hcrEl2.getLsbD 42 = true)) :
    mdcrChain s = .undefined := by
  have hcond : ¬(s.el2Enabled && s.nv) = true := by
    rw [State.nv, Bool.and_eq_true, Bool.and_eq_true]
    exact h
  simp only [mdcrChain, he, if_neg hcond]

theorem a64EL3_tda3_iff : (s.a64EL3 && s.tda3) = true ↔
    s.cfg.haveEL3 = true ∧ s.inp.el3A32 = false ∧ s.ctl.mdcrEl3.getLsbD 9 = true := by
  simp only [State.a64EL3, State.tda3, Bool.and_eq_true, Bool.not_eq_true', and_assoc]

theorem a64EL3_tda3_eq_false
    (h : ¬(s.cfg.haveEL3 = true ∧ s.inp.el3A32 = false ∧ s.ctl.mdcrEl3.getLsbD 9 = true)) :
    (s.a64EL3 && s.tda3) = false :=
  Bool.eq_false_iff.mpr (mt a64EL3_tda3_iff.mp h)

theorem mdcrChain_el2_trap (he : s.ps.el = .el2) (h3 : s.cfg.haveEL3 = true) (h64 : s.inp.el3A32 = false)
    (h9 : s.ctl.mdcrEl3.getLsbD 9 = true) : mdcrChain s = .trap .el3 := by
  simp only [mdcrChain, he, if_pos (a64EL3_tda3_iff.mpr ⟨h3, h64, h9⟩)]

theorem mdcrOpen_el2 (he : s.ps.el = .el2)
    (h : ¬(s.cfg.haveEL3 = true ∧ s.inp.el3A32 = false ∧ s.ctl.mdcrEl3.getLsbD 9 = true)) : s.mdcrOpen = true := by
  simp only [State.mdcrOpen, he, a64EL3_tda3_eq_false h, Bool.not_false]

theorem mdcrOpen_el3 (he : s.ps.el = .el3) : s.mdcrOpen = true := by
  simp only [State.mdcrOpen, he]

theorem exec_msrMdcrEl2_open (t : XReg) (h : s.mdcrOpen = true) :
    exec (.msrMdcrEl2 t) s = .next ((s.mdcrWrite (s.getX t)).advance) :=
  runMsr_access (mdcrChain_open h)

/-- A chain that ends in Undefined does so for the read and for the write. -/
theorem exec_mdcrEl2_undefined (t : XReg) (h : mdcrChain s = .undefined) :
    exec (.mrsMdcrEl2 t) s = .next s.takeUndefined ∧ exec (.msrMdcrEl2 t) s = .next s.takeUndefined :=
  ⟨runMrs_undefined h, runMsr_undefined h⟩

theorem exec_mrsMdcrEl2_trap (t : XReg) {T : EL} (h : mdcrChain s = .trap T) :
    exec (.mrsMdcrEl2 t) s = .next (s.takeTrap T 0x18 (0x330403 ||| (t.setWidth 25 <<< 5))) := by
  rw [← iss18_mdcrEl2_read]
  exact runMrs_trap h

theorem exec_msrMdcrEl2_trap (t : XReg) {T : EL} (h : mdcrChain s = .trap T) :
    exec (.msrMdcrEl2 t) s = .next (s.takeTrap T 0x18 (0x330402 ||| (t.setWidth 25 <<< 5))) := by
  rw [← iss18_mdcrEl2_write]
  exact runMsr_trap h

end Checks

/-- Settles O18, level by level: the chain decides, and the form of MRS does what it says. -/
theorem mdcrReadByLevel : Obligations.MdcrReadByLevel := by
  unfold Obligations.MdcrReadByLevel
  intro s t
  refine ⟨fun he => ?_, fun he h2 hnv h42 => ?_, fun he h => ?_, fun he h3 h64 h9 => ?_, fun he h => ?_, fun he => ?_⟩
  · exact (exec_mdcrEl2_undefined t (mdcrChain_el0 he)).1
  · exact exec_mrsMdcrEl2_trap t (mdcrChain_el1_trap he h2 hnv h42)
  · exact (exec_mdcrEl2_undefined t (mdcrChain_el1_undefined he h)).1
  · exact exec_mrsMdcrEl2_trap t (mdcrChain_el2_trap he h3 h64 h9)
  · exact exec_mrsMdcrEl2_open t (mdcrOpen_el2 he h)
  · exact exec_mrsMdcrEl2_open t (mdcrOpen_el3 he)

/-- The worked example of R81: all ones, in an implementation with every field but MTPME. -/
theorem mdcrMerge_allOnes {c : Config} (old : Word) (h2 : c.haveEL2 = true) (h3 : c.haveEL3 = true)
    (hv3 : c.havePMUv3 = true) (h1 : c.havePMUv3p1 = true) (h5 : c.havePMUv3p5 = true) (hfgt : c.haveFGT = true)
    (htf : c.haveTraceFilt = true) (hspe : c.haveSPE = true) (hres : c.res0BitsStored = false) :
    mdcrMerge c old 0xFFFFFFFFFFFFFFFF = 0x0C8A7FFF := by
  simp [mdcrMerge, implMask, h2, h3, hv3, h1, h5, hfgt, htf, hspe, hres]

/-- Settles O19, level by level as the read, with the worked example by the value of the mask. -/
theorem mdcrWriteByLevel : Obligations.MdcrWriteByLevel := by
  unfold Obligations.MdcrWriteByLevel
  intro s t
  refine ⟨fun he => ?_, fun he h2 hnv h42 => ?_, fun he h => ?_, fun he h3 h64 h9 => ?_, fun he h => ?_, fun he => ?_,
    fun he h2 h3 h9 hv3 h1 h5 hfgt htf hspe hres hx => ?_⟩
  · exact (exec_mdcrEl2_undefined t (mdcrChain_el0 he)).2
  · exact exec_msrMdcrEl2_trap t (mdcrChain_el1_trap he h2 hnv h42)
  · exact (exec_mdcrEl2_undefined t (mdcrChain_el1_undefined he h)).2
  · exact exec_msrMdcrEl2_trap t (mdcrChain_el2_trap he h3 h64 h9)
  · exact exec_msrMdcrEl2_open t (mdcrOpen_el2 he h)
  · exact exec_msrMdcrEl2_open t (mdcrOpen_el3 he)
  · have hopen : s.mdcrOpen = true := mdcrOpen_el2 he fun ⟨_, _, h9'⟩ => Bool.false_ne_true (h9.symm.trans h9')
    refine ⟨_, exec_msrMdcrEl2_open t hopen, ?_⟩
    rw [State.advance_ctl, State.mdcrWrite_ctl, hx]
    exact mdcrMerge_allOnes _ h2 h3 hv3 h1 h5 hfgt htf hspe hres

/-! ### The checks of HDCR (40_access.md R84, R85) -/

section Checks32

variable {s : State}

theorem hdcrChain_el0 (he : s.ps.el = .el0) : hdcrChain s = .undefined := by
  simp only [hdcrChain, he]

theorem hdcrChain_el1_trap (he : s.ps.el = .el1) (h2 : s.el2Enabled = true) (h64 : s.el2A32 = false)
    (ht : s.ctl.hstrEl2.getLsbD 1 = true) : hdcrChain s = .trap .el2 := by
  simp [hdcrChain, he, State.a64EL2, State.hstrT, h2, h64, ht]

theorem hdcrChain_el1_hypTrap (he : s.ps.el = .el1) (h2 : s.el2Enabled = true) (h32 : s.el2A32 = true)
    (ht : s.ctl.hstrEl2.getLsbD 1 = true) : hdcrChain s = .hypTrap := by
  simp [hdcrChain, he, State.a64EL2, State.a32EL2, State.hstrT, h2, h32, ht]

theorem hdcrChain_el1_undefined (he : s.ps.el = .el1)
    (h : ¬(s.el2Enabled = true ∧ s.ctl.hstrEl2.getLsbD 1 = true)) : hdcrChain s = .undefined := by
  have h64 : ¬(s.a64EL2 && s.hstrT 1) = true := fun hc =>
    have ⟨ha, ht⟩ := Bool.and_eq_true_iff.mp hc
    h ⟨(a64EL2_spec ha).1, ht⟩
  have h32 : ¬(s.a32EL2 && s.hstrT 1) = true := fun hc =>
    have ⟨ha, ht⟩ := Bool.and_eq_true_iff.mp hc
    h ⟨(a32EL2_spec ha).1, ht⟩
  simp only [hdcrChain, he, if_neg h64, if_neg h32]

theorem hdcrChain_el2_trap (he : s.ps.el = .el2) (h3 : s.cfg.haveEL3 = true) (h64 : s.inp.el3A32 = false)
    (h9 : s.ctl.mdcrEl3.getLsbD 9 = true) : hdcrChain s = .trap .el3 := by
  simp only [hdcrChain, he, if_pos (a64EL3_tda3_iff.mpr ⟨h3, h64, h9⟩)]

theorem hdcrChain_el3_secure (he : s.ps.el = .el3) (hns : s.nonSecure = false) : hdcrChain s = .undefined := by
  simp [hdcrChain, he, hns]

theorem hdcrOpen_el2 (he : s.ps.el = .el2)
    (h : ¬(s.cfg.haveEL3 = true ∧ s.inp.el3A32 = false ∧ s.ctl.mdcrEl3.getLsbD 9 = true)) : s.hdcrOpen = true := by
  simp only [State.hdcrOpen, he, a64EL3_tda3_eq_false h, Bool.not_false]

theorem hdcrOpen_el3 (he : s.ps.el = .el3) (hns : s.nonSecure = true) : s.hdcrOpen = true := by
  simp only [State.hdcrOpen, he, hns]

/-- An instruction whose condition fails is a NOP where configured traps do not act on it (60_exceptions.md R231). -/
theorem run32_failed {c : Cond} {ec : BitVec 6} {iss : BitVec 25} {d : Decision32} {acc : Nat → State} {zero : State}
    (hc : s.condPassed c = false) (ht : s.cfg.trapFailedCondition = false) :
    run32 c ec iss d acc zero s = .next s.advance := by
  simp [run32, next32, hc, ht]

theorem exec_mrcHdcr_open {c : Cond} (t : RReg) (hc : s.condPassed c = true) (h : s.hdcrOpen = true) :
    exec (.mrcHdcr c t) s = .next (s.setR t s.hdcrRead).advance :=
  run32_access hc (hdcrChain_open h)

theorem exec_mcrHdcr_open {c : Cond} (t : RReg) (hc : s.condPassed c = true) (h : s.hdcrOpen = true) :
    exec (.mcrHdcr c t) s = .next (s.hdcrWrite (s.getR .r15 t)).advance :=
  run32_access hc (hdcrChain_open h)

theorem exec_hdcr_undefined {c : Cond} (t : RReg) (hc : s.condPassed c = true) (h : hdcrChain s = .undefined) :
    exec (.mrcHdcr c t) s = .next s.takeUndefined ∧ exec (.mcrHdcr c t) s = .next s.takeUndefined :=
  ⟨run32_undefined hc h, run32_undefined hc h⟩

theorem exec_hdcr_trap {c : Cond} (t : RReg) (hc : s.condPassed c = true) {T : EL} (h : hdcrChain s = .trap T) :
    exec (.mrcHdcr c t) s = .next (s.takeTrap T 0x03 (s.issMcr ⟨15, 4, 1, 1, 1⟩ c t true)) ∧
      exec (.mcrHdcr c t) s = .next (s.takeTrap T 0x03 (s.issMcr ⟨15, 4, 1, 1, 1⟩ c t false)) :=
  ⟨run32_trap hc h, run32_trap hc h⟩

/-- Under HSTR.T1 the access is a Hyp Trap exception. -/
theorem exec_hdcr_hypTrap {c : Cond} (t : RReg) (hc : s.condPassed c = true) (h32 : s.el2A32 = true)
    (h : hdcrChain s = .hypTrap) :
    exec (.mrcHdcr c t) s = .next (s.takeHyp (esrValue 0x03 true (s.issMcr ⟨15, 4, 1, 1, 1⟩ c t true))) ∧
      exec (.mcrHdcr c t) s = .next (s.takeHyp (esrValue 0x03 true (s.issMcr ⟨15, 4, 1, 1, 1⟩ c t false))) := by
  rw [← State.takeTrap_hyp h32, ← State.takeTrap_hyp h32]
  exact ⟨run32_el2 hc (.inr ⟨h, h32⟩), run32_el2 hc (.inr ⟨h, h32⟩)⟩

theorem exec_hdcr_failed {c : Cond} (t : RReg) (hc : s.condPassed c = false)
    (ht : s.cfg.trapFailedCondition = false) :
    exec (.mrcHdcr c t) s = .next s.advance ∧ exec (.mcrHdcr c t) s = .next s.advance :=
  ⟨run32_failed hc ht, run32_failed hc ht⟩

end Checks32

/-- HDCR is the low half of MDCR_EL2 without bits [16:12], and without HLP where that bit is RAZ/WI
(42_pmu_controls.md R176). -/
theorem State.hdcrRead_eq (s : State) :
    s.hdcrRead = low32 s.mdcrRead &&& (if s.hlpRazwi then 0xFBFE0FFF else 0xFFFE0FFF) := by
  unfold State.hdcrRead State.hdcrMask low32
  rw [BitVec.setWidth_and]
  split <;> rfl

theorem State.hdcrWrite_eq {s : State} (h2 : s.cfg.haveEL2 = true) (v : Word32) :
    s.hdcrWrite v = { s with ctl := { s.ctl with
      mdcrEl2 := (s.ctl.mdcrEl2 &&& ~~~(implMask s.cfg &&& s.hdcrMask)) |||
        (zext64 v &&& (implMask s.cfg &&& s.hdcrMask)) } } := by
  simp only [State.hdcrWrite, h2, Bool.not_true, Bool.false_eq_true, if_false]

/-- Settles O20, level by level: the chain of HDCR decides, and the form of MRC does what it says. -/
theorem hdcrReadByLevel : Obligations.HdcrReadByLevel := by
  unfold Obligations.HdcrReadByLevel
  intro s c t
  rw [← s.hdcrRead_eq]
  refine ⟨fun hc he => ?_, fun hc he h2 h64 ht => ?_, fun hc he h2 h32 ht => ?_, fun hc he h => ?_,
    fun hc he h3 h64 h9 => ?_, fun hc he h => ?_, fun hc he hns => ?_, fun hc he hns => ?_, fun hc ht => ?_⟩
  · exact (exec_hdcr_undefined t hc (hdcrChain_el0 he)).1
  · exact (exec_hdcr_trap t hc (hdcrChain_el1_trap he h2 h64 ht)).1
  · exact (exec_hdcr_hypTrap t hc h32 (hdcrChain_el1_hypTrap he h2 h32 ht)).1
  · exact (exec_hdcr_undefined t hc (hdcrChain_el1_undefined he h)).1
  · exact (exec_hdcr_trap t hc (hdcrChain_el2_trap he h3 h64 h9)).1
  · exact exec_mrcHdcr_open t hc (hdcrOpen_el2 he h)
  · exact (exec_hdcr_undefined t hc (hdcrChain_el3_secure he hns)).1
  · exact exec_mrcHdcr_open t hc (hdcrOpen_el3 he hns)
  · exact (exec_hdcr_failed t hc ht).1

/-- Settles O21: the checks of the read, and the write through the mask of HDCR. -/
theorem hdcrWriteByLevel : Obligations.HdcrWriteByLevel := by
  unfold Obligations.HdcrWriteByLevel
  intro s c t
  refine ⟨fun hc he => ?_, fun hc he h2 h64 ht => ?_, fun hc he h2 h32 ht => ?_, fun hc he h => ?_,
    fun hc he h3 h64 h9 => ?_, fun hc he h h2 => ?_, fun hc he hns => ?_, fun hc he hns h2 => ?_, fun hc ht => ?_⟩
  · exact (exec_hdcr_undefined t hc (hdcrChain_el0 he)).2
  · exact (exec_hdcr_trap t hc (hdcrChain_el1_trap he h2 h64 ht)).2
  · exact (exec_hdcr_hypTrap t hc h32 (hdcrChain_el1_hypTrap he h2 h32 ht)).2
  · exact (exec_hdcr_undefined t hc (hdcrChain_el1_undefined he h)).2
  · exact (exec_hdcr_trap t hc (hdcrChain_el2_trap he h3 h64 h9)).2
  · rw [exec_mcrHdcr_open t hc (hdcrOpen_el2 he h), State.hdcrWrite_eq h2]
    rfl
  · exact (exec_hdcr_undefined t hc (hdcrChain_el3_secure he hns)).2
  · rw [exec_mcrHdcr_open t hc (hdcrOpen_el3 he hns), State.hdcrWrite_eq h2]
    rfl
  · exact (exec_hdcr_failed t hc ht).2

/-! ### What a write stores (40_access.md R82) -/

theorem mdcrMerge_of_el2 {c : Config} (h2 : c.haveEL2 = true) (old v : Word) :
    mdcrMerge c old v = if c.res0BitsStored then v else v &&& implMask c := by
  simp only [mdcrMerge, h2, Bool.not_true, Bool.false_eq_true, if_false]

@[simp] theorem State.withMdcr_mdcr (s : State) (v : Word) : (s.withMdcr v).mdcr = v &&& implMask s.cfg := rfl

/-- Stored or not, the RES0 bits of a written value are not what the rules read. -/
theorem State.mdcrWrite_mdcr {s : State} (h2 : s.cfg.haveEL2 = true) (v : Word) :
    (s.mdcrWrite v).mdcr = v &&& implMask s.cfg := by
  change mdcrMerge s.cfg s.ctl.mdcrEl2 v &&& implMask s.cfg = _
  rw [mdcrMerge_of_el2 h2]
  split
  · rfl
  · rw [BitVec.and_assoc, BitVec.and_self]

/-- A field that the mask covers is read as it is in the unmasked value. -/
theorem extractLsb'_and_of_ones {v m : Word} {start len : Nat} (h : ∀ i < len, m.getLsbD (start + i) = true) :
    (v &&& m).extractLsb' start len = v.extractLsb' start len := by
  refine BitVec.eq_of_getLsbD_eq fun i hi => ?_
  simp only [BitVec.getLsbD_extractLsb', BitVec.getLsbD_and, h i hi, Bool.and_true]

theorem implMask_e2pb {c : Config} (h : c.haveSPE = true) : ∀ i < 2, (implMask c).getLsbD (12 + i) = true := by
  intro i hi
  rw [implMask_getLsbD]
  simp only [h, and_true]
  omega

theorem implMask_hpmn {c : Config} (h : c.havePMUv3 = true) : ∀ i < 5, (implMask c).getLsbD (0 + i) = true := by
  intro i hi
  rw [implMask_getLsbD]
  simp only [h, and_true]
  omega

/-- Settles O22: what is read after the write is the written value under the mask, which covers every implemented
field. -/
theorem mdcrWriteValue : Obligations.MdcrWriteValue := by
  unfold Obligations.MdcrWriteValue
  intro s t h2 hopen
  have hread : (s.mdcrWrite (s.getX t)).advance.mdcr = s.getX t &&& implMask s.cfg := State.mdcrWrite_mdcr h2 _
  refine ⟨_, exec_msrMdcrEl2_open t hopen, mdcrMerge_of_el2 h2 _ _, fun j hj => ?_, fun hspe => ?_, fun hv3 => ?_,
    fun v => ?_⟩
  · rw [hread, BitVec.getLsbD_and, hj, Bool.and_true]
  · rw [State.e2pb, hread, extractLsb'_and_of_ones (implMask_e2pb hspe)]
  · rw [State.hpmn, hread, extractLsb'_and_of_ones (implMask_hpmn hv3)]
  · rw [State.withMdcr_mdcr, State.withMdcr_mdcr, State.advance_cfg, State.mdcrWrite_cfg, BitVec.and_assoc,
      BitVec.and_self]

/-! ### What a read returns (40_access.md R83) -/

theorem hpmnIllegal_iff (n h : Nat) : hpmnIllegal n h = true ↔ n ≠ 0 ∧ (h = 0 ∨ n < h) := by
  simp [hpmnIllegal]

/-- With a legal HPMN, or without counters, a read gives the stored register. -/
theorem State.mdcrRead_of_legal {s : State} (h2 : s.cfg.haveEL2 = true)
    (h : ¬(s.cfg.havePMUv3 = true ∧ s.pmcrN ≠ 0 ∧
      ((s.ctl.mdcrEl2.extractLsb' 0 5).toNat = 0 ∨ s.pmcrN < (s.ctl.mdcrEl2.extractLsb' 0 5).toNat))) :
    s.mdcrRead = s.ctl.mdcrEl2 := by
  rw [← hpmnIllegal_iff, ← Bool.and_eq_true] at h
  simp only [State.mdcrRead, h2, Bool.not_true, Bool.false_eq_true, if_false, if_neg h]

/-- In every case a read gives the stored bits [63:5], and some five bits below them. -/
theorem State.mdcrRead_eq_or {s : State} (h2 : s.cfg.haveEL2 = true) :
    s.mdcrRead = (s.ctl.mdcrEl2 &&& ~~~0x1F#64) ||| (s.mdcrRead.setWidth 5).setWidth 64 := by
  have low (j : Nat) : (0x1F#64).getLsbD j = true ↔ j < 5 :=
    getLsbD_word_iff (p := fun j => j < 5) (by decide) (by omega) j
  refine BitVec.eq_of_getLsbD_eq fun j hj => ?_
  simp only [BitVec.getLsbD_or, BitVec.getLsbD_and, BitVec.getLsbD_not, BitVec.getLsbD_setWidth, hj, decide_true,
    Bool.true_and]
  by_cases h5 : j < 5
  · simp only [(low j).mpr h5, h5, decide_true, Bool.not_true, Bool.and_false, Bool.false_or, Bool.true_and]
  · have hlow : (0x1F#64).getLsbD j = false := Bool.eq_false_iff.mpr (mt (low j).mp h5)
    simp only [State.mdcrRead_stored h2 (Nat.le_of_not_lt h5) hj, hlow, h5, decide_false, Bool.not_false, Bool.and_true,
      Bool.false_and, Bool.or_false]

/-- Settles O23: Xt takes ReadValue(), which is the stored register but for an illegal HPMN. -/
theorem mdcrReadValue : Obligations.MdcrReadValue := by
  unfold Obligations.MdcrReadValue
  intro s t h2 hopen ht
  have hx : (s.setX t s.mdcrRead).advance.getX t = s.mdcrRead :=
    (s.getX_setX t t s.mdcrRead).trans (if_pos ⟨rfl, ht⟩)
  refine ⟨_, exec_mrsMdcrEl2_open t hopen, rfl, ?_, fun h => ?_⟩
  · rw [hx]
    exact ⟨_, State.mdcrRead_eq_or h2⟩
  · rw [hx, State.mdcrRead_of_legal h2 h]

/-! ### Without EL2 (40_access.md R86) -/

section WithoutEl2

variable {s : State} (h2 : s.cfg.haveEL2 = false)
include h2

theorem mdcrRead_of_no_el2 : s.mdcrRead = 0 := by
  simp only [State.mdcrRead, h2, Bool.not_false, if_true]

theorem mdcrWrite_of_no_el2 (v : Word) : s.mdcrWrite v = s := by
  simp only [State.mdcrWrite, mdcrMerge, h2, Bool.not_false, if_true]

theorem hdcrRead_of_no_el2 : s.hdcrRead = 0 := by
  simp [State.hdcrRead, mdcrRead_of_no_el2 h2, low32]

theorem hdcrWrite_of_no_el2 (v : Word32) : s.hdcrWrite v = s := by
  simp only [State.hdcrWrite, h2, Bool.not_false, if_true]

theorem el2Enabled_of_no_el2 : s.el2Enabled = false := by
  rw [State.el2Enabled, h2, Bool.false_and]

theorem partHpmn_of_no_el2 (use : HpmnUse) (n : Nat) : s.partHpmn use n = s.pmcrN := by
  simp only [State.partHpmn, h2, Bool.not_false, if_true]

theorem prohibitedByHpmd_of_no_el2 : s.prohibitedByHpmd = false := by
  simp only [State.prohibitedByHpmd, h2, Bool.and_false, Bool.false_and]

theorem mdcrChain_guest_of_no_el2 (he : s.ps.el = .el0 ∨ s.ps.el = .el1) : mdcrChain s = .undefined := by
  rcases he with he | he
  · exact mdcrChain_el0 he
  · exact mdcrChain_el1_undefined he fun h => Bool.false_ne_true ((el2Enabled_of_no_el2 h2).symm.trans h.1)

/-- An implemented counter is below the partition point, where PMCR_EL0.E enables it (42_pmu_controls.md R175). -/
theorem counterEnabled_of_no_el2 {n : Nat} (hn : n < s.pmcrN) :
    s.counterEnabled n = (s.pmu.pmcnten.getLsbD n && s.pmcrE) := by
  rw [State.counterEnabled, partHpmn_of_no_el2 h2, if_pos hn]

theorem counterAllowed_of_no_el2 (n : Nat) : s.counterAllowed n = true := by
  rw [State.counterAllowed, prohibitedByHpmd_of_no_el2 h2, Bool.and_false, Bool.not_false]

theorem cycleAllowed_of_no_el2 : s.cycleAllowed = true := by
  simp only [State.cycleAllowed, prohibitedByHpmd_of_no_el2 h2, h2, Bool.and_false, Bool.false_and, Bool.not_false,
    Bool.and_true]

theorem overflowWidth_of_no_el2 {n : Nat} (hn : n < s.pmcrN) :
    s.overflowWidth n = if !s.cfg.havePMUv3p5 then 32 else if s.pmcrLp then 64 else 32 := by
  rw [State.overflowWidth, partHpmn_of_no_el2 h2, if_pos hn]

/-- The branch of MTPME is that of EL2 (notes/assumptions 38). -/
theorem effMt_withMdcr_of_no_el2 (v : Word) (n : Nat) : (s.withMdcr v).effMt n = s.effMt n := by
  simp only [State.effMt, State.withMdcr_cfg, h2, Bool.false_eq_true, if_false]
  rfl

end WithoutEl2

/-- Settles O24: the register reads as zero and ignores writes, and every use of a field is behind HaveEL(EL2). -/
theorem mdcrWithoutEl2 : Obligations.MdcrWithoutEl2 := by
  unfold Obligations.MdcrWithoutEl2
  intro s t c r h2
  refine ⟨fun he => ⟨?_, ?_⟩, fun he => exec_mdcrEl2_undefined t (mdcrChain_guest_of_no_el2 h2 he),
    fun he hns hc => ⟨?_, ?_⟩, el2Enabled_of_no_el2 h2, partHpmn_of_no_el2 h2, fun v n hn => ?_⟩
  · rw [exec_mrsMdcrEl2_open t (mdcrOpen_el3 he), mdcrRead_of_no_el2 h2]
  · rw [exec_msrMdcrEl2_open t (mdcrOpen_el3 he), mdcrWrite_of_no_el2 h2]
  · rw [exec_mrcHdcr_open r hc (hdcrOpen_el3 he hns), hdcrRead_of_no_el2 h2]
  · rw [exec_mcrHdcr_open r hc (hdcrOpen_el3 he hns), hdcrWrite_of_no_el2 h2]
  · have h2v : (s.withMdcr v).cfg.haveEL2 = false := h2
    have hnv : n < (s.withMdcr v).pmcrN := hn
    refine ⟨?_, ?_, ?_, ?_, effMt_withMdcr_of_no_el2 h2 v n⟩
    · rw [counterEnabled_of_no_el2 h2v hnv, counterEnabled_of_no_el2 h2 hn]
      rfl
    · rw [counterAllowed_of_no_el2 h2v, counterAllowed_of_no_el2 h2]
    · rw [cycleAllowed_of_no_el2 h2v, cycleAllowed_of_no_el2 h2]
    · rw [overflowWidth_of_no_el2 h2v hnv, overflowWidth_of_no_el2 h2 hn]
      rfl

end Sys2Proof.Machine
end

section
/-! SUPPORT. The debug registers where no check stops the access: each chain decides for the access, and the form of the
instruction does it (41_debug_traps.md). -/

namespace Sys2Proof.Machine

/-! ### A64 -/

/-- Settles O27: the chain of each register is open under the condition of its rule. -/
theorem dccRegistersComplete : Obligations.DccRegistersComplete := by
  unfold Obligations.DccRegistersComplete
  intro s t
  refine ⟨fun h => runMrs_access (dccUserChain_open h), fun h => ?_, fun h => ?_⟩
  · have hopen := dccChain_open h
    exact ⟨runMrs_access hopen, runMsr_access hopen, runMrs_access hopen, runMsr_access hopen, runMrs_access hopen,
      runMsr_access hopen⟩
  · have hopen := dtrChain_open h
    exact ⟨runMrs_access hopen, runMsr_access hopen, runMrs_access hopen, runMsr_access hopen⟩

/-- A read of a register with the TDA control that is performed. -/
theorem runMrs_tdaOpen {s : State} {e : SysEnc} {t : XReg} {bit : Nat} {read : Nat → Word} {after : State → State}
    (h : s.tdaOpen true bit = true) :
    runMrs e t (tdaChain true bit (.access 0) (.access 0) s) read s after =
      .next (((after s).setX t (read 0)).advance) :=
  runMrs_access (tdaChain_open_same h _)

/-- A write of a register with the TDA control that is performed. -/
theorem runMsr_tdaOpen {s : State} {e : SysEnc} {t : XReg} {bit : Nat} {write : Nat → Word → State}
    (h : s.tdaOpen false bit = true) :
    runMsr e t (tdaChain false bit (.access 0) (.access 0) s) write s = .next ((write 0 (s.getX t)).advance) :=
  runMsr_access (tdaChain_open_same h _)

/-- Settles O28: register by register, the chain of its rule is open, and the form reads or writes it. -/
theorem debugRegistersComplete : Obligations.DebugRegistersComplete := by
  unfold Obligations.DebugRegistersComplete
  intro s t n
  refine ⟨fun h hr => runMrs_access (mdscrChain_open h hr), fun h hr => runMsr_access (mdscrChain_open h hr),
    runMrs_tdaOpen, runMsr_tdaOpen,
    fun h => runMrs_access (breakChain_open h), fun h => runMsr_access (breakChain_open h),
    fun h => runMrs_access (breakChain_open h), fun h => runMsr_access (breakChain_open h),
    fun h => runMrs_access (breakChain_open h), fun h => runMsr_access (breakChain_open h),
    fun h => runMrs_access (breakChain_open h), fun h => runMsr_access (breakChain_open h),
    fun h => ⟨runMrs_tdaOpen h, runMrs_tdaOpen h⟩, fun h => ⟨runMsr_tdaOpen h, runMsr_tdaOpen h⟩, runMrs_tdaOpen,
    fun h => runMrs_access (mdrarChain_open h),
    fun h => runMsr_access (tdosaChain_open h), fun h => runMrs_access (tdosaChain_open h),
    fun h => runMrs_access (osdlrChain_open h), fun h => runMsr_access (osdlrChain_open h),
    fun h => runMrs_access (tdosaChain_open h), fun h => runMsr_access (tdosaChain_open h)⟩

/-! ### AArch32 -/

/-- Settles O32: under a condition that passes the chain of each group is open, for each of its registers. -/
theorem debugRegisters32Complete : Obligations.DebugRegisters32Complete := by
  unfold Obligations.DebugRegisters32Complete
  intro s c t n
  refine ⟨fun hc h => ?_, fun hc hn h => ?_, fun hc hn h => ?_, fun hc h => ?_, fun hc h => ?_, fun hc h => ?_⟩
  · and_intros <;> exact run32_access hc (tda32Chain_open h)
  · and_intros <;> exact run32_access hc (break32Chain_open hn h)
  · and_intros <;> exact run32_access hc (break32Chain_open hn h)
  · and_intros <;> exact run32_access hc (tdosa32Chain_open h)
  · have hopen := osdlr32Chain_open h
    exact ⟨run32_access hc hopen, run32_access hc hopen⟩
  · have hopen := trfcr32Chain_open h
    exact ⟨run32_access hc hopen, run32_access hc hopen⟩

/-- Settles O33: the same for the registers of the DCC and the debug ROM. -/
theorem dccRegisters32Complete : Obligations.DccRegisters32Complete := by
  unfold Obligations.DccRegisters32Complete
  intro s c t
  refine ⟨fun hc h => run32_access hc (dcc32UserChain_open h), fun hc h => run32_access hc (dcc32UserChain_open h),
    fun hc h => ?_, fun hc h => ?_, fun hc h => ?_⟩
  · have hopen := dtr32Chain_open h
    exact ⟨run32_access hc hopen, run32_access hc hopen⟩
  · and_intros <;> exact run32_access hc (dcc32Chain_open h)
  · have hopen := tdra32Chain_open h
    exact ⟨run32_access hc hopen, run32_access hc hopen⟩

/-! ### The transfers -/

theorem dtrOpen_of_halted {s : State} (h : s.inp.halted = true) : s.dtrOpen = true := by
  rw [State.dtrOpen, h, Bool.true_or]

theorem dtr32Open_of_halted {s : State} (h : s.inp.halted = true) : s.dtr32Open = true := by
  rw [State.dtr32Open, h, Bool.true_or]

/-- LDC and STC of the transfer registers, where they are performed (41_debug_traps.md R136). -/
theorem exec_ldc_stc_open {s : State} {c : Cond} (p u w : Bool) (rn : RReg) (imm8 : BitVec 8)
    (hc : s.condPassed c = true) (h : s.dtr32Open = true) :
    exec (.ldcDbgdtrtxint c p u w rn imm8) s = .next (((s.memWriteBack ⟨p, u, w, rn, imm8⟩ (s.memOffset
      ⟨p, u, w, rn, imm8⟩)).dtrTxWrite (BitVec.ofNat 32 (s.load s.bigEndianData (s.memAddress ⟨p, u, w, rn, imm8⟩)
        4))).advance) ∧
    exec (.stcDbgdtrrxint c p u w rn imm8) s = .next (((s.store s.bigEndianData (s.memAddress ⟨p, u, w, rn, imm8⟩)
      4 s.dbg.dtrRx.toNat).dtrRxTaken.memWriteBack ⟨p, u, w, rn, imm8⟩ (s.memOffset ⟨p, u, w, rn, imm8⟩)).advance) :=
  ⟨run32_access hc (dtr32Chain_open h), run32_access hc (dtr32Chain_open h)⟩

/-- Settles O36: the chains of DBGDRAR, DBGDSAR, PMCCNTR and the transfer registers, by the 64-bit forms and by LDC and
STC. -/
theorem transferInstructionsComplete : Obligations.TransferInstructionsComplete := by
  unfold Obligations.TransferInstructionsComplete
  intro s c t t2 p u w rn imm8
  exact ⟨fun hc h => ⟨run32_access hc (tdra32Chain_open h), run32_access hc (tdra32Chain_open h)⟩,
    fun hc h => run32_access hc (pmu32Plain_open h), fun hc h => run32_access hc (pmu32Plain_open h),
    exec_ldc_stc_open p u w rn imm8⟩

/-- Settles O17: in Debug state the conditions of O27, O33 and O36 on the transfer registers hold. -/
theorem debugStateTransfersAreNeverTrapped : Obligations.DebugStateTransfersAreNeverTrapped := by
  unfold Obligations.DebugStateTransfersAreNeverTrapped
  intro s t c p u w rn imm8 r hh
  obtain ⟨-, -, h64⟩ := dccRegistersComplete s t
  obtain ⟨-, -, h32, -⟩ := dccRegisters32Complete s c r
  obtain ⟨hmrs, hmsr, hmrsRx, hmsrTx⟩ := h64 (dtrOpen_of_halted hh)
  refine ⟨hmrs, hmsr, hmrsRx, hmsrTx, fun hc => ?_⟩
  obtain ⟨hmrc, hmcr⟩ := h32 hc (dtr32Open_of_halted hh)
  exact ⟨hmrc, hmcr, exec_ldc_stc_open p u w rn imm8 hc (dtr32Open_of_halted hh)⟩

end Sys2Proof.Machine
end

section
/-! SUPPORT. Debug exceptions: the level they are routed to and the syndrome of each class (41_debug_traps.md R105,
60_exceptions.md R235). -/

namespace Sys2Proof.Machine

/-! ### The routing (41_debug_traps.md R105) -/

theorem debugTarget_el2 {s : State} (he : s.ps.el = .el0 ∨ s.ps.el = .el1) (h2 : s.el2Enabled = true)
    (ht : s.effTde = true) : s.debugTarget = .el2 := by
  rcases he with he | he <;> simp only [State.debugTarget, he, h2, ht, Bool.and_self, if_true]

theorem debugTarget_el1 {s : State} (he : s.ps.el = .el0 ∨ s.ps.el = .el1)
    (h : ¬(s.el2Enabled = true ∧ s.effTde = true)) : s.debugTarget = .el1 := by
  rw [← Bool.and_eq_true] at h
  rcases he with he | he <;> simp only [State.debugTarget, he, if_neg h]

/-- With EL2 enabled, TDE is effectively 1 when the stored bit or HCR_EL2.TGE is (10_state.md R30). -/
theorem State.effTde_of_stored {s : State} (h2 : s.el2Enabled = true)
    (h : (s.ctl.mdcrEl2.getLsbD 8 || s.ctl.hcrEl2.getLsbD 27) = true) : s.effTde = true := by
  rw [State.effTde, State.tde, s.mdcr_debugField (by decide) (by decide), h2, Bool.true_and]
  exact h

/-! ### The syndromes (60_exceptions.md R235) -/

/-- The syndrome of a debug exception that is not a VNCR_EL2 watchpoint; `same`: taken without a change in Exception
level. -/
def debugSyndrome (e : DebugException) (same : Bool) : Word := esrValue (debugEc e same false) (debugIl e) (debugIss e)

theorem debugSyndrome_breakpoint (same : Bool) :
    debugSyndrome .breakpoint same = if same then 0xC6000022 else 0xC2000022 := by
  cases same <;> rfl

theorem debugSyndrome_softwareStep (isv ex same : Bool) :
    debugSyndrome (.softwareStep isv ex) same = (if same then 0xCE000022 else 0xCA000022) |||
      (if isv then 0x1000000 else 0) ||| (if isv && ex then 0x40 else 0) := by
  cases isv <;> cases ex <;> cases same <;> rfl

theorem debugSyndrome_watchpoint (cm wnr same : Bool) :
    debugSyndrome (.watchpoint false cm wnr) same = (if same then 0xD6000022 else 0xD2000022) |||
      (if cm then 0x100 else 0) ||| (if wnr then 0x40 else 0) := by
  cases cm <;> cases wnr <;> cases same <;> rfl

theorem debugSyndrome_vectorCatch (same : Bool) : debugSyndrome .vectorCatch same = 0xEA000022 := by
  cases same <;> rfl

/-- A 16-bit immediate in the ISS is the low part of the syndrome. -/
theorem esrValue_imm16 (ec : BitVec 6) (il : Bool) (k : BitVec 16) :
    esrValue ec il (k.setWidth 25) = esrValue ec il 0 ||| k.setWidth 64 := by
  refine BitVec.eq_of_getLsbD_eq fun j hj => ?_
  simp only [esrValue, BitVec.getLsbD_or, BitVec.getLsbD_setWidth, BitVec.getLsbD_append]
  by_cases h25 : j < 25
  · simp [h25, hj]
  · simp [h25, BitVec.getLsbD_of_ge k j (by omega)]

theorem debugSyndrome_bkpt (k : BitVec 16) (wide same : Bool) :
    debugSyndrome (.bkpt k wide) same = 0xE0000000 ||| (if wide then 0x2000000 else 0) ||| k.setWidth 64 := by
  have himm : debugSyndrome (.bkpt k wide) same = esrValue 0x38 wide 0 ||| k.setWidth 64 := esrValue_imm16 0x38 wide k
  rw [himm]
  cases wide <;> rfl

theorem debugSyndrome_brk (k : BitVec 16) (same : Bool) :
    debugSyndrome (.brk k) same = 0xF2000000 ||| k.setWidth 64 := esrValue_imm16 0x3C true k

/-! ### The step -/

/-- A step that finds a debug exception takes it to its target level. -/
theorem step_debugException {s : State} {rest : List Event} {e : DebugException} {T : EL} {same : Bool}
    (hev : s.events = .debugException e :: rest) (hcfg : e.forConfig s.cfg = e) (hnv : e.nested = false)
    (hT : s.debugTarget = T) (hsame : decide (T = s.ps.el) = same) :
    step s = .next (({ s with events := rest } : State).take T (debugSyndrome e same)).tick := by
  have htarget : ({ s with events := rest } : State).debugTarget = T := hT
  unfold step
  rw [hev]
  simp only [handleEvent, State.takeDebug, htarget, hcfg, hnv, hsame, Bool.false_and]
  rfl

/-- The six classes, taken to level `T`. -/
theorem step_debugExceptions {s : State} {T : EL} {same : Bool} (rest : List Event) (isv ex cm wnr wide : Bool)
    (k : BitVec 16) (hT : s.debugTarget = T) (hsame : decide (T = s.ps.el) = same) :
    (s.events = .debugException .breakpoint :: rest →
      step s = .next (({ s with events := rest } : State).take T (if same then 0xC6000022 else 0xC2000022)).tick) ∧
    (s.events = .debugException (.softwareStep isv ex) :: rest →
      step s = .next (({ s with events := rest } : State).take T ((if same then 0xCE000022 else 0xCA000022) |||
        (if isv then 0x1000000 else 0) ||| (if isv && ex then 0x40 else 0))).tick) ∧
    (s.events = .debugException (.watchpoint false cm wnr) :: rest →
      step s = .next (({ s with events := rest } : State).take T ((if same then 0xD6000022 else 0xD2000022) |||
        (if cm then 0x100 else 0) ||| (if wnr then 0x40 else 0))).tick) ∧
    (s.events = .debugException (.bkpt k wide) :: rest →
      step s = .next (({ s with events := rest } : State).take T (0xE0000000 ||| (if wide then 0x2000000 else 0) |||
        k.setWidth 64)).tick) ∧
    (s.events = .debugException .vectorCatch :: rest →
      step s = .next (({ s with events := rest } : State).take T 0xEA000022).tick) ∧
    (s.events = .debugException (.brk k) :: rest →
      step s = .next (({ s with events := rest } : State).take T (0xF2000000 ||| k.setWidth 64)).tick) := by
  refine ⟨fun h => ?_, fun h => ?_, fun h => ?_, fun h => ?_, fun h => ?_, fun h => ?_⟩
  · rw [← debugSyndrome_breakpoint]; exact step_debugException h rfl rfl hT hsame
  · rw [← debugSyndrome_softwareStep]; exact step_debugException h rfl rfl hT hsame
  · rw [← debugSyndrome_watchpoint]; exact step_debugException h rfl rfl hT hsame
  · rw [← debugSyndrome_bkpt k wide same]; exact step_debugException h rfl rfl hT hsame
  · rw [← debugSyndrome_vectorCatch same]; exact step_debugException h rfl rfl hT hsame
  · rw [← debugSyndrome_brk k same]; exact step_debugException h rfl rfl hT hsame

/-- Settles O50: the target level by TDE, then the syndrome of each class, with or without a change of level. -/
theorem debugExceptionRouting : Obligations.DebugExceptionRouting := by
  unfold Obligations.DebugExceptionRouting
  intro s rest isv ex cm wnr wide k
  refine ⟨fun he h2 htde => ?_, fun he h => ?_, fun he h => ?_⟩
  · have hsame : decide (EL.el2 = s.ps.el) = false := by rcases he with he | he <;> rw [he] <;> rfl
    have hT := debugTarget_el2 he h2 (State.effTde_of_stored h2 htde)
    simpa only [Bool.false_eq_true, if_false] using step_debugExceptions rest isv ex cm wnr wide k hT hsame
  · have hsame : decide (EL.el1 = s.ps.el) = false := by rw [he]; rfl
    have hT := debugTarget_el1 (.inl he) h
    simpa only [Bool.false_eq_true, if_false] using step_debugExceptions rest isv ex cm wnr wide k hT hsame
  · have hsame : decide (EL.el1 = s.ps.el) = true := by rw [he]; rfl
    have hT := debugTarget_el1 (.inr he) h
    simpa only [if_true] using step_debugExceptions rest isv ex cm wnr wide k hT hsame

end Sys2Proof.Machine
end

section
/-! SUPPORT. The debug registers where a check stops the access, A64: what each group of accesses does with the decision
of its chain, and what the chain decides (41_debug_traps.md R101 to R130). -/

namespace Sys2Proof.Machine

/-! ### An instruction under a decision -/

/-- The instruction does what an A64 decision against the access says. -/
structure State.Obeys (s : State) (i : Instr) (d : Decision) : Prop where
  trap : ∀ {T}, d = .trap T → exec i s = .next (i.trapped s T)
  undefined : d = .undefined → exec i s = .next s.takeUndefined
  halt : d = .halt → exec i s = .next s.halt

section Obeys

variable {s : State} {i : Instr} {e : SysEnc} {t : XReg} {d : Decision}

/-- For one instruction both equations hold by the dispatch and the meaning of the instruction. -/
theorem obeys_mrs {read : Nat → Word} {after : State → State} (hx : exec i s = runMrs e t d read s after := by rfl)
    (ht : ∀ T, i.trapped s T = s.takeTrap T 0x18 (iss18 e t true) := by intro; rfl) : s.Obeys i d where
  trap h := by rw [hx, ht]; exact runMrs_trap h
  undefined h := hx.trans (runMrs_undefined h)
  halt h := hx.trans (runMrs_halt h)

/-- The same for a write. -/
theorem obeys_msr {write : Nat → Word → State} (hx : exec i s = runMsr e t d write s := by rfl)
    (ht : ∀ T, i.trapped s T = s.takeTrap T 0x18 (iss18 e t false) := by intro; rfl) : s.Obeys i d where
  trap h := by rw [hx, ht]; exact runMsr_trap h
  undefined h := hx.trans (runMsr_undefined h)
  halt h := hx.trans (runMsr_halt h)

end Obeys

/-! ### The groups of accesses -/

theorem mrsMdccsrEl0_obeys (s : State) (t : XReg) : s.Obeys (.mrsMdccsrEl0 t) (dccUserChain s) :=
  obeys_mrs

theorem dccAccesses_obey (s : State) (t : XReg) : ∀ i ∈ dccAccesses t, s.Obeys i (dccChain s) := by
  simp only [dccAccesses, List.forall_mem_cons]
  exact ⟨obeys_mrs, obeys_msr, obeys_mrs, obeys_msr, obeys_mrs, obeys_msr, List.forall_mem_nil _⟩

theorem dtrAccesses_obey (s : State) (t : XReg) : ∀ i ∈ dtrAccesses t, s.Obeys i (dtrChain s) := by
  simp only [dtrAccesses, List.forall_mem_cons]
  exact ⟨obeys_mrs, obeys_msr, obeys_mrs, obeys_msr, List.forall_mem_nil _⟩

theorem tdaAccesses_obey (s : State) (t : XReg) :
    ∀ a ∈ tdaAccesses t, ∃ acc, s.Obeys a.instr (tdaChain a.read a.bit acc (.access 0) s) := by
  simp only [tdaAccesses, List.forall_mem_cons]
  exact ⟨⟨_, obeys_mrs⟩, ⟨_, obeys_msr⟩, ⟨_, obeys_mrs⟩,
    ⟨_, obeys_msr⟩, ⟨_, obeys_mrs⟩, ⟨_, obeys_msr⟩,
    ⟨_, obeys_mrs⟩, ⟨_, obeys_msr⟩, ⟨_, obeys_mrs⟩, List.forall_mem_nil _⟩

theorem breakAccesses_obey (s : State) (n : BitVec 4) (t : XReg) :
    ∀ a ∈ breakAccesses n t, s.Obeys a.instr (breakChain a.read a.bit n s.cfg.breakpoints s) := by
  simp only [breakAccesses, List.forall_mem_cons]
  exact ⟨obeys_mrs, obeys_msr, obeys_mrs, obeys_msr, List.forall_mem_nil _⟩

theorem watchAccesses_obey (s : State) (n : BitVec 4) (t : XReg) :
    ∀ a ∈ watchAccesses n t, s.Obeys a.instr (breakChain a.read a.bit n s.cfg.watchpoints s) := by
  simp only [watchAccesses, List.forall_mem_cons]
  exact ⟨obeys_mrs, obeys_msr, obeys_mrs, obeys_msr, List.forall_mem_nil _⟩

theorem mrsMdrarEl1_obeys (s : State) (t : XReg) : s.Obeys (.mrsMdrarEl1 t) (mdrarChain s) :=
  obeys_mrs

theorem osAccesses_obey (s : State) (t : XReg) :
    ∀ a ∈ osAccesses t, s.Obeys a.instr (tdosaChain a.read a.bit true true true s) := by
  simp only [osAccesses, List.forall_mem_cons]
  exact ⟨obeys_msr, obeys_mrs, obeys_mrs, obeys_msr, List.forall_mem_nil _⟩

theorem osdlrAccesses_obey (s : State) (t : XReg) :
    ∀ a ∈ osdlrAccesses t, s.Obeys a.instr (tdosaChain a.read a.bit s.cfg.haveDoubleLock
      (s.cfg.haveDoubleLock || s.cfg.tdosaTrapsOsdlr) (s.cfg.haveDoubleLock || s.cfg.mdcrEl3TdosaTrapsOsdlr) s) := by
  simp only [osdlrAccesses, List.forall_mem_cons]
  exact ⟨obeys_mrs, obeys_msr, List.forall_mem_nil _⟩

/-! ### The chains: traps to EL2 -/

section Chains

variable {s : State}

/-- No check of EL2 stops an access at EL1 or EL2: `b` says that one does at EL1. -/
def State.NoEl2Check (s : State) (b : Bool) : Prop := s.ps.el = .el2 ∨ (s.ps.el = .el1 ∧ b = false)

theorem dccEl1_el2 (h2 : s.a64EL2 = true) (h : (s.tdcc || s.tde || s.tda) = true) : dccEl1 s = .trap .el2 := by
  unfold dccEl1 State.tdx
  cases hd : s.tdcc
  · rw [hd, Bool.false_or] at h
    simp [h2, h]
  · simp [h2]

theorem dccEl0_el2 (hu : s.udccDis = false) (h2 : s.a64EL2 = true)
    (h : (s.tge || s.tdcc || s.tde || s.tda) = true) : dccEl0 s = .trap .el2 := by
  unfold dccEl0 State.tdx
  cases hd : s.tdcc
  · rw [hd, Bool.or_false, Bool.or_assoc] at h
    simp [hu, h2, h]
  · simp [hu, h2]

/-- MDSCR_EL1.TDCC comes first at EL0 (41_debug_traps.md R110). -/
theorem dccEl0_user (h1 : s.inp.el1A32 = false) (hu : s.udccDis = true) :
    dccEl0 s = .trap (if (s.a64EL2 && s.tge) = true then .el2 else .el1) := by
  unfold dccEl0
  rw [h1, hu, Bool.not_false, Bool.true_and, if_pos rfl]
  split <;> rfl

theorem dccUserChain_el0 (he : s.ps.el = .el0) : dccUserChain s = dccEl0 s := by simp only [dccUserChain, he]
theorem dccUserChain_el1 (he : s.ps.el = .el1) : dccUserChain s = dccEl1 s := by simp only [dccUserChain, he]

/-- Above EL0 the registers of R111 to R113 have the checks of MDCCSR_EL0. -/
theorem dccChain_eq_user (h0 : s.ps.el ≠ .el0) : dccChain s = dccUserChain s := by
  cases he : s.ps.el with
  | el0 => exact absurd he h0
  | _ => simp only [dccChain, dccUserChain, he]

/-- In Non-debug state the transfer registers have the checks of MDCCSR_EL0 (41_debug_traps.md R107, R114). -/
theorem dtrChain_eq_user (hh : s.inp.halted = false) : dtrChain s = dccUserChain s := by
  simp [dtrChain, hh]

theorem tdaChain_el2 {read : Bool} {bit : Nat} (he : s.ps.el = .el1)
    (h : (s.fgt1 read bit || (s.a64EL2 && (s.tde || s.tda))) = true) (acc acc' : Decision) :
    tdaChain read bit acc acc' s = .trap .el2 := by
  unfold tdaChain State.tdx
  cases hf : s.fgt1 read bit
  · rw [hf, Bool.false_or] at h
    simp [he, h]
  · simp [he]

/-- For a register that is implemented, the chain of R119 to R122 is one with the TDA control. -/
theorem breakChain_implemented {n : BitVec 4} {count : Nat} (hn : n.toNat < count) (read : Bool) (bit : Nat) :
    ∃ acc, breakChain read bit n count s = tdaChain read bit acc acc s :=
  ⟨_, if_neg (Nat.not_le.mpr hn)⟩

theorem breakChain_unimplemented {n : BitVec 4} {count : Nat} (hn : count ≤ n.toNat) (read : Bool) (bit : Nat) :
    breakChain read bit n count s = .undefined := if_pos hn

theorem breakChain_el2 {read : Bool} {bit count : Nat} {n : BitVec 4} (he : s.ps.el = .el1) (hn : n.toNat < count)
    (h : (s.fgt1 read bit || (s.a64EL2 && (s.tde || s.tda))) = true) : breakChain read bit n count s = .trap .el2 := by
  obtain ⟨acc, hacc⟩ := breakChain_implemented (s := s) hn read bit
  rw [hacc, tdaChain_el2 he h]

theorem mdrarChain_el2 (he : s.ps.el = .el1) (h2 : s.a64EL2 = true) (h : (s.tde || s.tdra) = true) :
    mdrarChain s = .trap .el2 := by
  simp [mdrarChain, State.tdx, he, h2, h]

theorem tdosaChain_el2 {read cf c2 c3 : Bool} {bit : Nat} (he : s.ps.el = .el1)
    (h : ((s.fgt1 read bit && cf) || (s.a64EL2 && (s.tde || s.tdosa) && c2)) = true) :
    tdosaChain read bit cf c2 c3 s = .trap .el2 := by
  unfold tdosaChain State.tdx
  cases hf : s.fgt1 read bit && cf
  · rw [hf, Bool.false_or] at h
    simp only [he, h, if_true, Bool.false_eq_true, if_false]
  · simp only [he, if_true]

/-! ### The chains: traps to EL3 -/

theorem dccTail_el3 (h3 : s.a64EL3 = true) (h : (s.tdcc3 || s.tda3) = true) : dccTail s = .trap .el3 := by
  unfold dccTail
  cases hd : s.tdcc3
  · rw [hd, Bool.false_or] at h
    simp [h3, h]
  · simp [h3]

theorem dccEl1_quiet (h : (s.a64EL2 && (s.tdcc || s.tde || s.tda)) = false) : dccEl1 s = dccTail s := by
  rw [Bool.and_or_distrib_left, Bool.and_or_distrib_left, Bool.or_assoc, Bool.or_eq_false_iff] at h
  obtain ⟨hdcc, hrest⟩ := h
  rw [← Bool.and_or_distrib_left] at hrest
  simp only [dccEl1, State.tdx, hdcc, hrest, Bool.false_eq_true, if_false]

theorem dccEl0_quiet (hu : (!s.inp.el1A32 && s.udccDis) = false)
    (h : (s.a64EL2 && (s.tge || s.tdcc || s.tde || s.tda)) = false) : dccEl0 s = dccTail s := by
  unfold dccEl0 State.tdx
  cases h2 : s.a64EL2
  · simp [hu]
  · rw [h2] at h
    simp only [Bool.true_and, Bool.or_eq_false_iff] at h
    obtain ⟨⟨⟨hg, hdcc⟩, hde⟩, hda⟩ := h
    simp [hu, hg, hdcc, hde, hda]

theorem dccUserChain_quiet (hq : s.NoEl2Check (s.a64EL2 && (s.tdcc || s.tde || s.tda))) :
    dccUserChain s = dccTail s := by
  rcases hq with he | ⟨he, hq⟩
  · simp only [dccUserChain, he]
  · rw [dccUserChain_el1 he, dccEl1_quiet hq]

theorem tdaChain_quiet {read : Bool} {bit : Nat} {acc acc' : Decision}
    (hq : s.NoEl2Check (s.fgt1 read bit || (s.a64EL2 && (s.tde || s.tda)))) :
    tdaChain read bit acc acc' s = tdaTail s (if s.ps.el = .el1 then acc else acc') := by
  unfold tdaChain State.tdx
  rcases hq with he | ⟨he, hq⟩
  · simp [he]
  · obtain ⟨hf, hd⟩ := Bool.or_eq_false_iff.mp hq
    simp [he, hf, hd]

theorem tdaTail_el3 (h3 : s.a64EL3 = true) (h : s.tda3 = true) (acc : Decision) : tdaTail s acc = .trap .el3 := by
  simp [tdaTail, h3, h]

theorem tdaTail_quiet (h : (s.a64EL3 && s.tda3) = false) (acc : Decision) : tdaTail s acc = acc := by
  simp [tdaTail, h]

theorem tdaChain_el3 {read : Bool} {bit : Nat} (h3 : s.a64EL3 = true) (h : s.tda3 = true)
    (hq : s.NoEl2Check (s.fgt1 read bit || (s.a64EL2 && (s.tde || s.tda)))) (acc acc' : Decision) :
    tdaChain read bit acc acc' s = .trap .el3 := by
  rw [tdaChain_quiet hq, tdaTail_el3 h3 h]

theorem breakChain_el3 {read : Bool} {bit count : Nat} {n : BitVec 4} (h3 : s.a64EL3 = true) (h : s.tda3 = true)
    (hn : n.toNat < count) (hq : s.NoEl2Check (s.fgt1 read bit || (s.a64EL2 && (s.tde || s.tda)))) :
    breakChain read bit n count s = .trap .el3 := by
  obtain ⟨acc, hacc⟩ := breakChain_implemented (s := s) hn read bit
  rw [hacc, tdaChain_el3 h3 h hq]

theorem mdrarChain_el3 (h3 : s.a64EL3 = true) (h : s.tda3 = true)
    (hq : s.NoEl2Check (s.a64EL2 && (s.tde || s.tdra))) : mdrarChain s = .trap .el3 := by
  unfold mdrarChain State.tdx
  rcases hq with he | ⟨he, hq⟩
  · simp only [he, tdaTail_el3 h3 h]
  · simp only [he, hq, Bool.false_eq_true, if_false, tdaTail_el3 h3 h]

theorem tdosaChain_el3 {read cf c2 c3 : Bool} {bit : Nat} (h3 : s.a64EL3 = true) (h : s.tdosa3 = true)
    (hc3 : c3 = true) (hq : s.NoEl2Check ((s.fgt1 read bit && cf) || (s.a64EL2 && (s.tde || s.tdosa) && c2))) :
    tdosaChain read bit cf c2 c3 s = .trap .el3 := by
  unfold tdosaChain State.tdx
  rcases hq with he | ⟨he, hq⟩
  · simp only [he, h3, h, hc3, Bool.and_self, if_true]
  · obtain ⟨hf, hd⟩ := Bool.or_eq_false_iff.mp hq
    simp only [he, hf, hd, h3, h, hc3, Bool.and_self, if_true, Bool.false_eq_true, if_false]

/-- Where no check traps it, an access to a breakpoint or watchpoint register enters Debug state (41_debug_traps.md
R119). -/
theorem breakChain_halt {read : Bool} {bit count : Nat} {n : BitVec 4} (hh : s.softwareAccessHalt = true)
    (hn : n.toNat < count)
    (hq : s.ps.el = .el3 ∨ ((s.a64EL3 && s.tda3) = false ∧
      s.NoEl2Check (s.fgt1 read bit || (s.a64EL2 && (s.tde || s.tda))))) :
    breakChain read bit n count s = .halt := by
  have hchain : breakChain read bit n count s = tdaChain read bit .halt .halt s := by
    simp only [breakChain, if_neg (Nat.not_le.mpr hn), if_pos hh]
  rw [hchain]
  rcases hq with he | ⟨h3, hq⟩
  · simp only [tdaChain, he]
  · rw [tdaChain_quiet hq, tdaTail_quiet h3, ite_self]

end Chains

end Sys2Proof.Machine
end

section
/-! SUPPORT. The A64 debug traps with the syndromes that the rules print, at EL1 and EL0 to EL2, and to EL3
(41_debug_traps.md R101 to R130). -/

namespace Sys2Proof.Machine

/-! ### The printed syndromes (60_exceptions.md R228) -/

/-- A trapped read, where the rule prints `k` as the ISS for X0. -/
theorem runMrs_printed {e : SysEnc} {t : XReg} {d : Decision} {read : Nat → Word} {s : State} {after : State → State}
    {T : EL} {k : BitVec 25} (h : d = .trap T) (hk : iss18 e 0 true = k) :
    runMrs e t d read s after = .next (s.takeTrap T 0x18 (k ||| (t.setWidth 25 <<< 5))) := by
  rw [runMrs_trap h, iss18_eq_or, hk]

/-- A trapped write, where the rule prints `k` as the ISS for X0. -/
theorem runMsr_printed {e : SysEnc} {t : XReg} {d : Decision} {write : Nat → Word → State} {s : State} {T : EL}
    {k : BitVec 25} (h : d = .trap T) (hk : iss18 e 0 false = k) :
    runMsr e t d write s = .next (s.takeTrap T 0x18 (k ||| (t.setWidth 25 <<< 5))) := by
  rw [runMsr_trap h, iss18_eq_or, hk]

/-- CRm is the field at bit 1 of the syndrome. -/
theorem iss18_crm (e : SysEnc) (n : BitVec 4) (t : XReg) (read : Bool) :
    iss18 { e with crm := n } t read = iss18 { e with crm := 0 } t read ||| (n.setWidth 25 <<< 1) := by
  refine BitVec.eq_of_getLsbD_eq fun j hj => ?_
  simp only [iss18, BitVec.getLsbD_or, BitVec.getLsbD_shiftLeft, BitVec.getLsbD_append]
  interval_cases j <;> simp

section Printed

variable {s : State} {T : EL} (t : XReg)

theorem exec_mdccsrEl0_trap (h : dccUserChain s = .trap T) :
    exec (.mrsMdccsrEl0 t) s = .next (s.takeTrap T 0x18 (0x20C003 ||| (t.setWidth 25 <<< 5))) :=
  runMrs_printed h rfl

theorem exec_dccAccesses_trap (h : dccChain s = .trap T) :
    exec (.mrsMdccintEl1 t) s = .next (s.takeTrap T 0x18 (0x200005 ||| (t.setWidth 25 <<< 5))) ∧
    exec (.msrMdccintEl1 t) s = .next (s.takeTrap T 0x18 (0x200004 ||| (t.setWidth 25 <<< 5))) ∧
    exec (.mrsOsdtrrxEl1 t) s = .next (s.takeTrap T 0x18 (0x240001 ||| (t.setWidth 25 <<< 5))) ∧
    exec (.msrOsdtrrxEl1 t) s = .next (s.takeTrap T 0x18 (0x240000 ||| (t.setWidth 25 <<< 5))) ∧
    exec (.mrsOsdtrtxEl1 t) s = .next (s.takeTrap T 0x18 (0x240007 ||| (t.setWidth 25 <<< 5))) ∧
    exec (.msrOsdtrtxEl1 t) s = .next (s.takeTrap T 0x18 (0x240006 ||| (t.setWidth 25 <<< 5))) :=
  ⟨runMrs_printed h rfl, runMsr_printed h rfl, runMrs_printed h rfl, runMsr_printed h rfl, runMrs_printed h rfl,
    runMsr_printed h rfl⟩

theorem exec_dtrAccesses_trap (h : dtrChain s = .trap T) :
    exec (.mrsDbgdtrEl0 t) s = .next (s.takeTrap T 0x18 (0x20C009 ||| (t.setWidth 25 <<< 5))) ∧
    exec (.msrDbgdtrEl0 t) s = .next (s.takeTrap T 0x18 (0x20C008 ||| (t.setWidth 25 <<< 5))) ∧
    exec (.mrsDbgdtrrxEl0 t) s = .next (s.takeTrap T 0x18 (0x20C00B ||| (t.setWidth 25 <<< 5))) ∧
    exec (.msrDbgdtrtxEl0 t) s = .next (s.takeTrap T 0x18 (0x20C00A ||| (t.setWidth 25 <<< 5))) :=
  ⟨runMrs_printed h rfl, runMsr_printed h rfl, runMrs_printed h rfl, runMsr_printed h rfl⟩

end Printed

/-! ### The DCC (41_debug_traps.md R101, R110 to R116) -/

section Dcc

variable {s : State}

/-- The registers of the DCC that EL0 may access, the transfer registers in Non-debug state, have one chain. -/
theorem dccUsers_obey (s : State) (t : XReg) :
    ∀ i ∈ .mrsMdccsrEl0 t :: (if s.inp.halted then [] else dtrAccesses t), s.Obeys i (dccUserChain s) := by
  simp only [List.forall_mem_cons, List.mem_ite_nil_left, Bool.not_eq_true, and_imp]
  refine ⟨mrsMdccsrEl0_obeys s t, fun i hh hi => ?_⟩
  rw [← dtrChain_eq_user hh]
  exact dtrAccesses_obey s t i hi

/-- Above EL0 the other registers of the DCC have it too. -/
theorem dccAll_obey (t : XReg) (h0 : s.ps.el ≠ .el0) :
    ∀ i ∈ .mrsMdccsrEl0 t :: dccAccesses t ++ (if s.inp.halted then [] else dtrAccesses t),
      s.Obeys i (dccUserChain s) := by
  intro i hi
  rw [List.cons_append, List.mem_cons, List.mem_append] at hi
  rcases hi with hi | hi | hi
  · exact dccUsers_obey s t i (hi ▸ List.mem_cons_self)
  · rw [← dccChain_eq_user h0]
    exact dccAccesses_obey s t i hi
  · exact dccUsers_obey s t i (List.mem_cons_of_mem _ hi)

/-- TDCC, TDE and TDA trap the DCC at EL1 (41_debug_traps.md R101, R104). -/
theorem dccChains_el1_el2 (he : s.ps.el = .el1) (h2 : s.a64EL2 = true) (h : (s.tdcc || s.tde || s.tda) = true) :
    dccUserChain s = .trap .el2 ∧ dccChain s = .trap .el2 ∧ (s.inp.halted = false → dtrChain s = .trap .el2) := by
  have huser : dccUserChain s = .trap .el2 := (dccUserChain_el1 he).trans (dccEl1_el2 h2 h)
  refine ⟨huser, ?_, fun hh => (dtrChain_eq_user hh).trans huser⟩
  rw [dccChain_eq_user (by rw [he]; decide), huser]

/-- So they, and HCR_EL2.TGE, do at EL0, unless MDSCR_EL1.TDCC comes first. -/
theorem dccChains_el0_el2 (he : s.ps.el = .el0) (hu : s.udccDis = false) (h2 : s.a64EL2 = true)
    (h : (s.tge || s.tdcc || s.tde || s.tda) = true) :
    dccUserChain s = .trap .el2 ∧ (s.inp.halted = false → dtrChain s = .trap .el2) := by
  have huser : dccUserChain s = .trap .el2 := (dccUserChain_el0 he).trans (dccEl0_el2 hu h2 h)
  exact ⟨huser, fun hh => (dtrChain_eq_user hh).trans huser⟩

end Dcc

/-- Settles O38: TDCC decides the chain of every register of the DCC at EL1 and EL0, and where no check of EL2 stops the
access the EL3 controls do. -/
theorem tdccTraps : Obligations.TdccTraps := by
  unfold Obligations.TdccTraps
  intro s t
  refine ⟨fun h2 hd => ⟨fun he => ?_, fun he hh => ?_, fun he hu => ?_, fun he hu hh => ?_⟩,
    fun h3 hd => ⟨fun i hi hq => ?_, fun i hi he hu hq => ?_⟩⟩
  · obtain ⟨huser, hdcc, -⟩ := dccChains_el1_el2 he h2 (by rw [hd]; rfl)
    exact ⟨exec_mdccsrEl0_trap t huser, exec_dccAccesses_trap t hdcc⟩
  · obtain ⟨-, -, hdtr⟩ := dccChains_el1_el2 he h2 (by rw [hd]; rfl)
    exact exec_dtrAccesses_trap t (hdtr hh)
  · obtain ⟨huser, -⟩ := dccChains_el0_el2 he hu h2 (by rw [hd, Bool.or_true]; rfl)
    exact exec_mdccsrEl0_trap t huser
  · obtain ⟨-, hdtr⟩ := dccChains_el0_el2 he hu h2 (by rw [hd, Bool.or_true]; rfl)
    exact exec_dtrAccesses_trap t (hdtr hh)
  · have h0 : s.ps.el ≠ .el0 := by rcases hq with he | ⟨he, -⟩ <;> rw [he] <;> decide
    exact (dccAll_obey t h0 i hi).trap ((dccUserChain_quiet hq).trans (dccTail_el3 h3 hd))
  · exact (dccUsers_obey s t i hi).trap
      ((dccUserChain_el0 he).trans ((dccEl0_quiet hu hq).trans (dccTail_el3 h3 hd)))

/-! ### The other debug registers (41_debug_traps.md R102 to R104, R117 to R130) -/

section Tda

variable {s : State} {T : EL} (t : XReg)

theorem exec_tdaAccesses_trap (h : ∀ read bit acc acc', tdaChain read bit acc acc' s = .trap T) :
    exec (.mrsMdscrEl1 t) s = .next (s.takeTrap T 0x18 (0x240005 ||| (t.setWidth 25 <<< 5))) ∧
    exec (.msrMdscrEl1 t) s = .next (s.takeTrap T 0x18 (0x240004 ||| (t.setWidth 25 <<< 5))) ∧
    exec (.mrsOseccrEl1 t) s = .next (s.takeTrap T 0x18 (0x24000D ||| (t.setWidth 25 <<< 5))) ∧
    exec (.msrOseccrEl1 t) s = .next (s.takeTrap T 0x18 (0x24000C ||| (t.setWidth 25 <<< 5))) ∧
    exec (.mrsDbgclaimsetEl1 t) s = .next (s.takeTrap T 0x18 (0x2C1C11 ||| (t.setWidth 25 <<< 5))) ∧
    exec (.msrDbgclaimsetEl1 t) s = .next (s.takeTrap T 0x18 (0x2C1C10 ||| (t.setWidth 25 <<< 5))) ∧
    exec (.mrsDbgclaimclrEl1 t) s = .next (s.takeTrap T 0x18 (0x2C1C13 ||| (t.setWidth 25 <<< 5))) ∧
    exec (.msrDbgclaimclrEl1 t) s = .next (s.takeTrap T 0x18 (0x2C1C12 ||| (t.setWidth 25 <<< 5))) ∧
    exec (.mrsDbgauthstatusEl1 t) s = .next (s.takeTrap T 0x18 (0x2C1C1D ||| (t.setWidth 25 <<< 5))) :=
  ⟨runMrs_printed (h ..) rfl, runMsr_printed (h ..) rfl, runMrs_printed (h ..) rfl, runMsr_printed (h ..) rfl,
    runMrs_printed (h ..) rfl, runMsr_printed (h ..) rfl, runMrs_printed (h ..) rfl, runMsr_printed (h ..) rfl,
    runMrs_printed (h ..) rfl⟩

theorem exec_breakAccesses_trap {n : BitVec 4}
    (h : ∀ read bit, breakChain read bit n s.cfg.breakpoints s = .trap T) :
    exec (.mrsDbgbvrEl1 n t) s =
      .next (s.takeTrap T 0x18 (0x280001 ||| (n.setWidth 25 <<< 1) ||| (t.setWidth 25 <<< 5))) ∧
    exec (.msrDbgbvrEl1 n t) s =
      .next (s.takeTrap T 0x18 (0x280000 ||| (n.setWidth 25 <<< 1) ||| (t.setWidth 25 <<< 5))) ∧
    exec (.mrsDbgbcrEl1 n t) s =
      .next (s.takeTrap T 0x18 (0x2A0001 ||| (n.setWidth 25 <<< 1) ||| (t.setWidth 25 <<< 5))) ∧
    exec (.msrDbgbcrEl1 n t) s =
      .next (s.takeTrap T 0x18 (0x2A0000 ||| (n.setWidth 25 <<< 1) ||| (t.setWidth 25 <<< 5))) :=
  ⟨runMrs_printed (h ..) (iss18_crm (Enc.dbgbvrEl1 0) n 0 true),
    runMsr_printed (h ..) (iss18_crm (Enc.dbgbvrEl1 0) n 0 false),
    runMrs_printed (h ..) (iss18_crm (Enc.dbgbcrEl1 0) n 0 true),
    runMsr_printed (h ..) (iss18_crm (Enc.dbgbcrEl1 0) n 0 false)⟩

theorem exec_watchAccesses_trap {n : BitVec 4}
    (h : ∀ read bit, breakChain read bit n s.cfg.watchpoints s = .trap T) :
    exec (.mrsDbgwvrEl1 n t) s =
      .next (s.takeTrap T 0x18 (0x2C0001 ||| (n.setWidth 25 <<< 1) ||| (t.setWidth 25 <<< 5))) ∧
    exec (.msrDbgwvrEl1 n t) s =
      .next (s.takeTrap T 0x18 (0x2C0000 ||| (n.setWidth 25 <<< 1) ||| (t.setWidth 25 <<< 5))) ∧
    exec (.mrsDbgwcrEl1 n t) s =
      .next (s.takeTrap T 0x18 (0x2E0001 ||| (n.setWidth 25 <<< 1) ||| (t.setWidth 25 <<< 5))) ∧
    exec (.msrDbgwcrEl1 n t) s =
      .next (s.takeTrap T 0x18 (0x2E0000 ||| (n.setWidth 25 <<< 1) ||| (t.setWidth 25 <<< 5))) :=
  ⟨runMrs_printed (h ..) (iss18_crm (Enc.dbgwvrEl1 0) n 0 true),
    runMsr_printed (h ..) (iss18_crm (Enc.dbgwvrEl1 0) n 0 false),
    runMrs_printed (h ..) (iss18_crm (Enc.dbgwcrEl1 0) n 0 true),
    runMsr_printed (h ..) (iss18_crm (Enc.dbgwcrEl1 0) n 0 false)⟩

/-- A breakpoint or watchpoint register obeys the chain of its bank. -/
theorem bankAccess_obeys {a : FineAccess} {n : BitVec 4} {p : Nat → Prop}
    (ha : (a ∈ breakAccesses n t ∧ p s.cfg.breakpoints) ∨ (a ∈ watchAccesses n t ∧ p s.cfg.watchpoints)) :
    ∃ count, p count ∧ s.Obeys a.instr (breakChain a.read a.bit n count s) := by
  rcases ha with ⟨ha, hp⟩ | ⟨ha, hp⟩
  · exact ⟨_, hp, breakAccesses_obey s n t a ha⟩
  · exact ⟨_, hp, watchAccesses_obey s n t a ha⟩

end Tda

/-- The levels and controls under which no trap takes an access, as the statement lists them. -/
theorem noCheck_of_cases {s : State} {b2 b3 : Bool}
    (h : s.ps.el = .el3 ∨ (s.ps.el = .el2 ∧ b3 = false) ∨ (s.ps.el = .el1 ∧ (b2 || b3) = false)) :
    s.ps.el = .el3 ∨ (b3 = false ∧ s.NoEl2Check b2) := by
  rcases h with he | ⟨he, h3⟩ | ⟨he, h⟩
  · exact .inl he
  · exact .inr ⟨h3, .inl he⟩
  · obtain ⟨h2, h3⟩ := Bool.or_eq_false_iff.mp h
    exact .inr ⟨h3, .inr ⟨he, h2⟩⟩

/-- Settles O39: each group of accesses obeys its chain, and each control decides the chain of its group. -/
theorem debugRegisterTraps : Obligations.DebugRegisterTraps := by
  unfold Obligations.DebugRegisterTraps
  intro s t n
  refine ⟨fun h2 => ⟨fun he hd => ?_, fun he hd hh => ?_, fun he hd hn => ?_, fun he hd hn => ?_, fun he hd => ?_,
      fun he hd => ?_, fun he hd hc => ?_, fun he hd hu => ?_, fun he hd hu hh => ?_⟩,
    fun he => ⟨fun a ha hf => ?_, fun a ha hf hc => ?_, fun a ha hf hn => ?_, fun a ha hf hn => ?_⟩,
    fun h3 => ⟨fun hd => ⟨fun a ha hq => ?_, fun a ha hq hn => ?_, fun a ha hq hn => ?_, fun hq => ?_⟩,
      fun hd => ⟨fun a ha hq => ?_, fun hc a ha hq => ?_⟩⟩,
    fun h1 hlk hal hed a ha hq => ?_, fun a ha => ?_⟩
  -- MDCR_EL2.TDA, TDE, TDRA and TDOSA at EL1
  · obtain ⟨huser, hdcc, -⟩ := dccChains_el1_el2 he h2 (by rw [Bool.or_assoc, hd, Bool.or_true])
    obtain ⟨ri, wi, rr, wr, rt, wt⟩ := exec_dccAccesses_trap t hdcc
    exact ⟨exec_mdccsrEl0_trap t huser, ri, wi, rr, wr, rt, wt,
      exec_tdaAccesses_trap t fun _ _ => tdaChain_el2 he (by rw [h2, hd, Bool.and_self, Bool.or_true])⟩
  · obtain ⟨-, -, hdtr⟩ := dccChains_el1_el2 he h2 (by rw [Bool.or_assoc, hd, Bool.or_true])
    exact exec_dtrAccesses_trap t (hdtr hh)
  · exact exec_breakAccesses_trap t fun _ _ =>
      breakChain_el2 he hn (by rw [h2, hd, Bool.and_self, Bool.or_true])
  · exact exec_watchAccesses_trap t fun _ _ =>
      breakChain_el2 he hn (by rw [h2, hd, Bool.and_self, Bool.or_true])
  · exact runMrs_printed (mdrarChain_el2 he h2 hd) rfl
  · have htrap (read : Bool) (bit : Nat) : tdosaChain read bit true true true s = .trap .el2 :=
      tdosaChain_el2 he (by rw [h2, hd, Bool.and_self, Bool.and_self, Bool.or_true])
    exact ⟨runMsr_printed (htrap ..) rfl, runMrs_printed (htrap ..) rfl, runMrs_printed (htrap ..) rfl,
      runMsr_printed (htrap ..) rfl⟩
  · have htrap (read : Bool) : osdlrChain read s = .trap .el2 :=
      tdosaChain_el2 he (by rw [h2, hd, hc, Bool.and_self, Bool.and_self, Bool.or_true])
    exact ⟨runMrs_printed (htrap ..) rfl, runMsr_printed (htrap ..) rfl⟩
  -- the same controls and HCR_EL2.TGE at EL0
  · obtain ⟨huser, -⟩ := dccChains_el0_el2 he hu h2 (by grind)
    exact exec_mdccsrEl0_trap t huser
  · obtain ⟨-, hdtr⟩ := dccChains_el0_el2 he hu h2 (by grind)
    exact exec_dtrAccesses_trap t (hdtr hh)
  -- the fine-grained bits at EL1
  · rcases List.mem_append.mp ha with ha | ha
    · obtain ⟨acc, hobeys⟩ := tdaAccesses_obey s t a ha
      exact hobeys.trap (tdaChain_el2 he (by rw [hf, Bool.true_or]) _ _)
    · exact (osAccesses_obey s t a ha).trap (tdosaChain_el2 he (by rw [hf]; rfl))
  · exact (osdlrAccesses_obey s t a ha).trap (tdosaChain_el2 he (by rw [hf, hc]; rfl))
  · exact (breakAccesses_obey s n t a ha).trap (breakChain_el2 he hn (by rw [hf, Bool.true_or]))
  · exact (watchAccesses_obey s n t a ha).trap (breakChain_el2 he hn (by rw [hf, Bool.true_or]))
  -- MDCR_EL3.TDA and TDOSA
  · obtain ⟨acc, hobeys⟩ := tdaAccesses_obey s t a ha
    exact hobeys.trap (tdaChain_el3 h3 hd hq _ _)
  · exact (breakAccesses_obey s n t a ha).trap (breakChain_el3 h3 hd hn hq)
  · exact (watchAccesses_obey s n t a ha).trap (breakChain_el3 h3 hd hn hq)
  · exact (mrsMdrarEl1_obeys s t).trap (mdrarChain_el3 h3 hd hq)
  · exact (osAccesses_obey s t a ha).trap (tdosaChain_el3 h3 hd rfl (by rw [Bool.and_true, Bool.and_true]; exact hq))
  · exact (osdlrAccesses_obey s t a ha).trap (tdosaChain_el3 h3 hd hc hq)
  -- the halt, and a register that is not implemented
  · obtain ⟨count, hn, hobeys⟩ := bankAccess_obeys t (p := (n.toNat < ·)) ha
    have hhalt : s.softwareAccessHalt = true := by rw [State.softwareAccessHalt, h1, hlk, hal, hed]; rfl
    exact hobeys.halt (breakChain_halt hhalt hn (noCheck_of_cases hq))
  · obtain ⟨count, hn, hobeys⟩ := bankAccess_obeys t (p := (· ≤ n.toNat)) ha
    exact hobeys.undefined (breakChain_unimplemented hn _ _)

end Sys2Proof.Machine
end

section
/-! SUPPORT. The debug registers where a check stops the access, AArch32: what each group of accesses does with the
decision of its chain, what the chain decides, and the traps (41_debug_traps.md R131 to R137). -/

namespace Sys2Proof.Machine

/-! ### An instruction under a decision -/

/-- The decision is a trap to EL2 in whichever Execution state EL2 is using (60_exceptions.md R234). -/
def Decision32.ToEl2 (s : State) (d : Decision32) : Prop := d = .trap .el2 ∨ (d = .hypTrap ∧ s.el2A32 = true)

/-- What a closed enable of EL1 decides for an AArch32 access at EL0 (41_debug_traps.md R134, R137;
42_pmu_controls.md R168). -/
def State.userDecision (s : State) : Decision32 :=
  if s.inp.el1A32 = false then (if s.a64EL2 && s.tge then .trap .el2 else .trap .el1)
  else if s.a64EL2 && s.tge then .trap .el2
  else if s.a32EL2 && s.tge then .hypUndef
  else .undefined

/-- The instruction, its condition having passed, does what an AArch32 decision against the access says. -/
structure State.Obeys32 (s : State) (i : Instr) (d : Decision32) : Prop where
  trap : ∀ {T}, d = .trap T → exec i s = .next (i.trapped s T)
  el2 : d.ToEl2 s → exec i s = .next (i.trapped s .el2)
  undefined : d = .undefined → exec i s = .next s.takeUndefined
  hypUndef : d = .hypUndef → exec i s = .next (s.takeHyp undefinedEsr)
  monitor : d = .monitorTrap → exec i s = .next (s.takeMode .el3)

/-- For one instruction both equations hold by the dispatch and the meaning of the instruction. -/
theorem obeys_run32 {s zero : State} {i : Instr} {c : Cond} {ec : BitVec 6} {iss : BitVec 25} {d : Decision32}
    {acc : Nat → State} (hc : s.condPassed c = true)
    (hx : exec i s = run32 c ec iss d acc zero s := by rfl)
    (ht : ∀ T, i.trapped s T = s.takeTrap T ec iss := by intro; rfl) : s.Obeys32 i d where
  trap h := by rw [hx, ht]; exact run32_trap hc h
  el2 h := by rw [hx, ht]; exact run32_el2 hc h
  undefined h := hx.trans (run32_undefined hc h)
  hypUndef h := hx.trans (run32_hypUndef hc h)
  monitor h := hx.trans (run32_monitor hc h)

/-- Where a closed enable of EL1 decides, the instruction is the user trap. -/
theorem State.Obeys32.user {s : State} {i : Instr} {d : Decision32} (ho : s.Obeys32 i d) (h : d = s.userDecision) :
    exec i s = .next (s.userTrap i) := by
  unfold State.userDecision at h
  unfold State.userTrap
  split at h
  · next h1 =>
    rw [if_pos h1]
    split at h
    · next hg => rw [if_pos hg]; exact ho.trap h
    · next hg => rw [if_neg hg]; exact ho.trap h
  · next h1 =>
    rw [if_neg h1]
    split at h
    · next hg => rw [if_pos hg]; exact ho.trap h
    · next hg =>
      rw [if_neg hg]
      split at h
      · next hg => rw [if_pos hg]; exact ho.hypUndef h
      · next hg => rw [if_neg hg]; exact ho.undefined h

/-! ### The groups of accesses -/

section Groups

variable {s : State} {c : Cond} (hc : s.condPassed c = true)
include hc

theorem mrcDbgdidr_obeys (t : RReg) : s.Obeys32 (.mrcDbgdidr c t) (dcc32UserChain false s) :=
  obeys_run32 hc

theorem mrcDbgdscrint_obeys (t : RReg) : s.Obeys32 (.mrcDbgdscrint c t) (dcc32UserChain true s) :=
  obeys_run32 hc

theorem dccAccesses32_obey (t : RReg) : ∀ i ∈ dccAccesses32 c t, s.Obeys32 i (dcc32Chain s) := by
  simp only [dccAccesses32, List.forall_mem_cons]
  exact ⟨obeys_run32 hc, obeys_run32 hc, obeys_run32 hc, obeys_run32 hc, obeys_run32 hc, obeys_run32 hc,
    List.forall_mem_nil _⟩

theorem dtrAccesses32_obey (t : RReg) (p u w : Bool) (rn : RReg) (imm8 : BitVec 8) :
    ∀ i ∈ dtrAccesses32 c t p u w rn imm8, s.Obeys32 i (dtr32Chain s) := by
  simp only [dtrAccesses32, List.forall_mem_cons]
  exact ⟨obeys_run32 hc, obeys_run32 hc, obeys_run32 hc, obeys_run32 hc, List.forall_mem_nil _⟩

theorem tdaAccesses32_obey (t : RReg) : ∀ i ∈ tdaAccesses32 c t, s.Obeys32 i (tda32Chain s) := by
  simp only [tdaAccesses32, List.forall_mem_cons]
  exact ⟨obeys_run32 hc, obeys_run32 hc, obeys_run32 hc, obeys_run32 hc, obeys_run32 hc, obeys_run32 hc,
    obeys_run32 hc, obeys_run32 hc, obeys_run32 hc, obeys_run32 hc, obeys_run32 hc, obeys_run32 hc, obeys_run32 hc,
    obeys_run32 hc, obeys_run32 hc, obeys_run32 hc, List.forall_mem_nil _⟩

theorem breakAccesses32_obey (n : BitVec 4) (t : RReg) :
    ∀ i ∈ breakAccesses32 c n t, s.Obeys32 i (break32Chain n s.cfg.breakpoints s) := by
  simp only [breakAccesses32, List.forall_mem_cons]
  exact ⟨obeys_run32 hc, obeys_run32 hc, obeys_run32 hc, obeys_run32 hc, obeys_run32 hc, obeys_run32 hc,
    List.forall_mem_nil _⟩

theorem watchAccesses32_obey (n : BitVec 4) (t : RReg) :
    ∀ i ∈ watchAccesses32 c n t, s.Obeys32 i (break32Chain n s.cfg.watchpoints s) := by
  simp only [watchAccesses32, List.forall_mem_cons]
  exact ⟨obeys_run32 hc, obeys_run32 hc, obeys_run32 hc, obeys_run32 hc, List.forall_mem_nil _⟩

theorem romAccesses32_obey (t t2 : RReg) : ∀ i ∈ romAccesses32 c t t2, s.Obeys32 i (tdra32Chain s) := by
  simp only [romAccesses32, List.forall_mem_cons]
  exact ⟨obeys_run32 hc, obeys_run32 hc, obeys_run32 hc, obeys_run32 hc, List.forall_mem_nil _⟩

theorem osAccesses32_obey (t : RReg) : ∀ i ∈ osAccesses32 c t, s.Obeys32 i (tdosa32Chain true true s) := by
  simp only [osAccesses32, List.forall_mem_cons]
  exact ⟨obeys_run32 hc, obeys_run32 hc, obeys_run32 hc, obeys_run32 hc, List.forall_mem_nil _⟩

theorem osdlrAccesses32_obey (t : RReg) : ∀ i ∈ osdlrAccesses32 c t, s.Obeys32 i (osdlr32Chain s) := by
  simp only [osdlrAccesses32, List.forall_mem_cons]
  exact ⟨obeys_run32 hc, obeys_run32 hc, List.forall_mem_nil _⟩

end Groups

/-! ### The chains: traps to EL2 -/

section Chains

variable {s : State}

/-- While EL2 is enabled it is using one of the two Execution states. -/
theorem el2Enabled_cases (h : s.el2Enabled = true) :
    (s.a64EL2 = true ∧ s.a32EL2 = false) ∨ (s.a64EL2 = false ∧ s.a32EL2 = true ∧ s.el2A32 = true) := by
  cases ha : s.el2A32 <;> simp [State.a64EL2, State.a32EL2, h, ha]

/-- While EL2 is not enabled it is using none. -/
theorem el2Enabled_false (h : s.el2Enabled = false) : s.a64EL2 = false ∧ s.a32EL2 = false := by
  simp [State.a64EL2, State.a32EL2, h]

theorem tda32Chain_el2 (he : s.ps.el = .el1) (h2 : s.el2Enabled = true) (h : (s.tde || s.tda) = true) :
    (tda32Chain s).ToEl2 s := by
  unfold tda32Chain State.tdx
  rcases el2Enabled_cases h2 with ⟨h64, -⟩ | ⟨h64, h32, ha⟩
  · exact .inl (by simp [he, h64, h])
  · exact .inr ⟨by simp [he, h64, h32, h], ha⟩

theorem break32Chain_implemented {n : BitVec 4} {count : Nat} (hn : n.toNat < count) :
    break32Chain n count s = tda32Chain s := if_neg (Nat.not_le.mpr hn)

theorem break32Chain_unimplemented {n : BitVec 4} {count : Nat} (hn : count ≤ n.toNat) :
    break32Chain n count s = .undefined := if_pos hn

/-- The EL2 checks of the DCC at EL1 and EL0: TDCC, and then the controls `b` (41_debug_traps.md R133, R137). -/
def dcc32Guest (dcc b : Bool) (s : State) : Decision32 :=
  if dcc && s.a64EL2 && s.tdcc then .trap .el2
  else if dcc && s.a32EL2 && s.tdcc then .hypTrap
  else if s.a64EL2 && b then .trap .el2
  else if s.a32EL2 && b then .hypTrap
  else dcc32Tail dcc s

theorem dcc32Guest_el2 {dcc b : Bool} (h2 : s.el2Enabled = true) (h : ((dcc && s.tdcc) || b) = true) :
    (dcc32Guest dcc b s).ToEl2 s := by
  unfold dcc32Guest
  rw [Bool.and_right_comm dcc s.a64EL2, Bool.and_right_comm dcc s.a32EL2]
  rcases el2Enabled_cases h2 with ⟨h64, -⟩ | ⟨h64, h32, ha⟩
  · left
    cases hd : dcc && s.tdcc <;> simp_all
  · right
    refine ⟨?_, ha⟩
    cases hd : dcc && s.tdcc <;> simp_all

theorem dcc32Guest_quiet {dcc b : Bool} (h : (s.el2Enabled && ((dcc && s.tdcc) || b)) = false) :
    dcc32Guest dcc b s = dcc32Tail dcc s := by
  unfold dcc32Guest
  rcases Bool.and_eq_false_iff.mp h with h2 | h
  · simp [el2Enabled_false h2]
  · obtain ⟨hd, hb⟩ := Bool.or_eq_false_iff.mp h
    rw [Bool.and_right_comm dcc s.a64EL2, Bool.and_right_comm dcc s.a32EL2]
    simp [hd, hb]

theorem dcc32UserChain_el1 (he : s.ps.el = .el1) (dcc : Bool) :
    dcc32UserChain dcc s = dcc32Guest dcc (s.tde || s.tda) s := by
  simp only [dcc32UserChain, he]
  rfl

theorem dcc32UserChain_el2 (he : s.ps.el = .el2) (dcc : Bool) : dcc32UserChain dcc s = dcc32Tail dcc s := by
  simp only [dcc32UserChain, he]

/-- Above EL0 the registers of R133 have the checks of DBGDSCRint. -/
theorem dcc32Chain_eq_user (h0 : s.ps.el ≠ .el0) : dcc32Chain s = dcc32UserChain true s := by
  cases he : s.ps.el with
  | el0 => exact absurd he h0
  | _ => simp only [dcc32Chain, dcc32UserChain, he]

/-- In Non-debug state the transfer registers have the checks of DBGDSCRint (41_debug_traps.md R107, R136, R137). -/
theorem dtr32Chain_eq_user (hh : s.inp.halted = false) : dtr32Chain s = dcc32UserChain true s := by
  simp [dtr32Chain, hh]

theorem user32First_open (hu : s.udccDis = false) (rest : Decision32) : user32First rest s = rest := by
  simp [user32First, hu]

/-- UDCCdis comes first at EL0 (41_debug_traps.md R134, R137). -/
theorem user32First_closed (hu : s.udccDis = true) (rest : Decision32) : user32First rest s = s.userDecision := by
  unfold user32First State.userDecision
  cases s.inp.el1A32 <;> simp [hu]

theorem dcc32UserChain_el0 (he : s.ps.el = .el0) (hu : s.udccDis = false) (dcc : Bool) :
    dcc32UserChain dcc s = dcc32Guest dcc (s.tge || (s.tde || s.tda)) s := by
  simp only [dcc32UserChain, he, user32First_open hu]
  rfl

theorem dcc32UserChain_el0_closed (he : s.ps.el = .el0) (hu : s.udccDis = true) (dcc : Bool) :
    dcc32UserChain dcc s = s.userDecision := by
  simp only [dcc32UserChain, he, user32First_closed hu]

theorem tdra32Chain_el1_el2 (he : s.ps.el = .el1) (h2 : s.el2Enabled = true) (h : (s.tde || s.tdra) = true) :
    (tdra32Chain s).ToEl2 s := by
  unfold tdra32Chain State.tdx
  rcases el2Enabled_cases h2 with ⟨h64, -⟩ | ⟨h64, h32, ha⟩
  · exact .inl (by simp [he, h64, h])
  · exact .inr ⟨by simp [he, h64, h32, h], ha⟩

theorem tdra32Chain_el0_el2 (he : s.ps.el = .el0) (hu : s.udccDis = false) (h2 : s.el2Enabled = true)
    (h : (s.tge || s.tde || s.tdra) = true) : (tdra32Chain s).ToEl2 s := by
  unfold tdra32Chain State.tdx
  rw [Bool.or_assoc] at h
  simp only [he, user32First_open hu]
  rcases el2Enabled_cases h2 with ⟨h64, -⟩ | ⟨h64, h32, ha⟩
  · exact .inl (by simp [h64, h])
  · exact .inr ⟨by simp [h64, h32, h], ha⟩

theorem tdosa32Chain_el2 {c2 c3 : Bool} (he : s.ps.el = .el1) (h2 : s.el2Enabled = true)
    (h : (s.tde || s.tdosa) = true) (hc2 : c2 = true) : (tdosa32Chain c2 c3 s).ToEl2 s := by
  unfold tdosa32Chain State.tdx
  rcases el2Enabled_cases h2 with ⟨h64, -⟩ | ⟨h64, h32, ha⟩
  · exact .inl (by simp [he, h64, h, hc2])
  · exact .inr ⟨by simp [he, h64, h32, h, hc2], ha⟩

/-! ### The chains: traps to EL3 and to Monitor mode -/

theorem dcc32Tail_el3 {dcc : Bool} (h3 : s.a64EL3 = true) (h : ((dcc && s.tdcc3) || s.tda3) = true) :
    dcc32Tail dcc s = .trap .el3 := by
  unfold dcc32Tail
  cases hd : dcc && s.tdcc3 <;> simp_all

theorem a64EL3_of_a32EL3 (h : s.a32EL3 = true) : s.a64EL3 = false := by
  rw [State.a64EL3, (a32EL3_spec h).2, Bool.not_true, Bool.and_false]

theorem dcc32Tail_monitor (h3 : s.a32EL3 = true) (h : s.sdcrTdcc = true) : dcc32Tail true s = .monitorTrap := by
  simp [dcc32Tail, a64EL3_of_a32EL3 h3, h3, h]

theorem dcc32UserChain_quiet {dcc : Bool}
    (hq : s.NoEl2Check (s.el2Enabled && ((dcc && s.tdcc) || (s.tde || s.tda)))) :
    dcc32UserChain dcc s = dcc32Tail dcc s := by
  rcases hq with he | ⟨he, hq⟩
  · exact dcc32UserChain_el2 he dcc
  · rw [dcc32UserChain_el1 he, dcc32Guest_quiet hq]

theorem dcc32UserChain_quiet_dcc (hq : s.NoEl2Check (s.el2Enabled && (s.tdcc || s.tde || s.tda))) :
    dcc32UserChain true s = dcc32Tail true s :=
  dcc32UserChain_quiet (by rwa [Bool.true_and, ← Bool.or_assoc])

theorem dcc32UserChain_el0_quiet {dcc : Bool} (he : s.ps.el = .el0) (hu : s.udccDis = false)
    (hq : (s.el2Enabled && (s.tge || (dcc && s.tdcc) || s.tde || s.tda)) = false) :
    dcc32UserChain dcc s = dcc32Tail dcc s := by
  rw [dcc32UserChain_el0 he hu, dcc32Guest_quiet]
  grind

theorem tda32Chain_el3 (h3 : s.a64EL3 = true) (h : s.tda3 = true)
    (hq : s.NoEl2Check (s.el2Enabled && (s.tde || s.tda))) : tda32Chain s = .trap .el3 := by
  unfold tda32Chain State.tdx
  rcases hq with he | ⟨he, hq⟩
  · simp [he, h3, h]
  rcases Bool.and_eq_false_iff.mp hq with h2 | hd
  · simp [he, el2Enabled_false h2, h3, h]
  · simp [he, hd, h3, h]

theorem tdosa32Chain_el3 {c2 c3 : Bool} (h3 : s.a64EL3 = true) (h : s.tdosa3 = true) (hc3 : c3 = true)
    (hq : s.NoEl2Check (s.el2Enabled && ((s.tde || s.tdosa) && c2))) : tdosa32Chain c2 c3 s = .trap .el3 := by
  unfold tdosa32Chain State.tdx
  rcases hq with he | ⟨he, hq⟩
  · simp [he, h3, h, hc3]
  rcases Bool.and_eq_false_iff.mp hq with h2 | hd
  · simp [he, el2Enabled_false h2, h3, h, hc3]
  · simp only [he, Bool.and_assoc, hd, h3, h, hc3, Bool.and_false, Bool.and_self, Bool.false_eq_true, if_false,
      if_true]

end Chains

/-! ### The groups that a statement names together -/

section Groups

variable {s : State} {c : Cond} (hc : s.condPassed c = true)
include hc

/-- The registers of the DCC that EL0 may access, the transfer registers in Non-debug state, have one chain. -/
theorem dcc32Users_obey (t : RReg) (p u w : Bool) (rn : RReg) (imm8 : BitVec 8) :
    ∀ i ∈ .mrcDbgdscrint c t :: (if s.inp.halted then [] else dtrAccesses32 c t p u w rn imm8),
      s.Obeys32 i (dcc32UserChain true s) := by
  simp only [List.forall_mem_cons, List.mem_ite_nil_left, Bool.not_eq_true, and_imp]
  refine ⟨mrcDbgdscrint_obeys hc t, fun i hh hi => ?_⟩
  rw [← dtr32Chain_eq_user hh]
  exact dtrAccesses32_obey hc t p u w rn imm8 i hi

/-- Above EL0 the other registers of the DCC have it too. -/
theorem dcc32All_obey (t : RReg) (p u w : Bool) (rn : RReg) (imm8 : BitVec 8) (h0 : s.ps.el ≠ .el0) :
    ∀ i ∈ dccAccesses32 c t ++
        .mrcDbgdscrint c t :: (if s.inp.halted then [] else dtrAccesses32 c t p u w rn imm8),
      s.Obeys32 i (dcc32UserChain true s) := by
  intro i hi
  rcases List.mem_append.mp hi with hi | hi
  · rw [← dcc32Chain_eq_user h0]
    exact dccAccesses32_obey hc t i hi
  · exact dcc32Users_obey hc t p u w rn imm8 i hi

/-- The TDA group, with the breakpoint and watchpoint registers that are implemented, has one chain. -/
theorem tda32All_obey (n : BitVec 4) (t : RReg) :
    ∀ i ∈ tdaAccesses32 c t ++ ((if n.toNat < s.cfg.breakpoints then breakAccesses32 c n t else []) ++
        (if n.toNat < s.cfg.watchpoints then watchAccesses32 c n t else [])),
      s.Obeys32 i (tda32Chain s) := by
  simp only [List.forall_mem_append, List.mem_ite_nil_right, and_imp]
  refine ⟨tdaAccesses32_obey hc t, fun i hn hi => ?_, fun i hn hi => ?_⟩
  · rw [← break32Chain_implemented hn]
    exact breakAccesses32_obey hc n t i hi
  · rw [← break32Chain_implemented hn]
    exact watchAccesses32_obey hc n t i hi

end Groups

theorem State.NoEl2Check.ne_el0 {s : State} {b : Bool} (hq : s.NoEl2Check b) : s.ps.el ≠ .el0 := by
  rcases hq with he | ⟨he, -⟩ <;> rw [he] <;> decide

/-- Settles O42: each group of accesses obeys its chain, and each control decides the chain of its group. -/
theorem debugTraps32 : Obligations.DebugTraps32 := by
  unfold Obligations.DebugTraps32
  intro s c t t2 n p u w rn imm8
  refine ⟨fun he h2 hc => ⟨fun hd => ?_, fun hd hh => ?_, fun hd => ?_, fun hd hn => ?_, fun hd hn => ?_, fun hd => ?_,
    fun hd => ?_, fun hd hdl => ?_⟩, fun hc => ?_⟩
  -- MDCR_EL2.TDCC, TDE, TDA, TDRA and TDOSA at EL1
  · have huser : (dcc32UserChain true s).ToEl2 s := by
      rw [dcc32UserChain_el1 he]
      exact dcc32Guest_el2 h2 (by rw [← Bool.or_assoc]; exact hd)
    have hdcc : (dcc32Chain s).ToEl2 s := by rwa [dcc32Chain_eq_user (by rw [he]; decide)]
    have dcc {ec iss acc zero} : run32 c ec iss (dcc32Chain s) acc zero s = .next (s.takeTrap .el2 ec iss) :=
      run32_el2 hc hdcc
    exact ⟨dcc, dcc, dcc, dcc, dcc, dcc, run32_el2 hc huser⟩
  · have hdtr : (dtr32Chain s).ToEl2 s := by
      rw [dtr32Chain_eq_user hh, dcc32UserChain_el1 he]
      exact dcc32Guest_el2 h2 (by rw [← Bool.or_assoc]; exact hd)
    and_intros <;> exact run32_el2 hc hdtr
  · have tda {ec iss acc zero} : run32 c ec iss (tda32Chain s) acc zero s = .next (s.takeTrap .el2 ec iss) :=
      run32_el2 hc (tda32Chain_el2 he h2 hd)
    have hdidr : (dcc32UserChain false s).ToEl2 s := by
      rw [dcc32UserChain_el1 he]
      exact dcc32Guest_el2 h2 hd
    exact ⟨tda, tda, tda, tda, tda, tda, tda, tda, tda, tda, tda, tda, tda, tda, tda, tda, run32_el2 hc hdidr⟩
  · have hbreak : (break32Chain n s.cfg.breakpoints s).ToEl2 s := by
      rw [break32Chain_implemented hn]
      exact tda32Chain_el2 he h2 hd
    and_intros <;> exact run32_el2 hc hbreak
  · have hwatch : (break32Chain n s.cfg.watchpoints s).ToEl2 s := by
      rw [break32Chain_implemented hn]
      exact tda32Chain_el2 he h2 hd
    and_intros <;> exact run32_el2 hc hwatch
  · and_intros <;> exact run32_el2 hc (tdra32Chain_el1_el2 he h2 hd)
  · and_intros <;> exact run32_el2 hc (tdosa32Chain_el2 he h2 hd rfl)
  · and_intros <;> exact run32_el2 hc (tdosa32Chain_el2 he h2 hd hdl)
  intro users breaks quiet
  have husers : ∀ i ∈ users, s.Obeys32 i (dcc32UserChain true s) := dcc32Users_obey hc t p u w rn imm8
  refine ⟨fun he hu h2 => ⟨fun hd i hi => ?_, fun hd => ?_, fun hd i hi => ?_⟩,
    fun i hi hq => ⟨fun h3 hd => ?_, fun h3 hd => ?_⟩, fun i hi he hu hq => ⟨fun h3 hd => ?_, fun h3 hd => ?_⟩,
    fun h3 hd => ⟨fun i hi hq => ?_, fun he hu hq => ?_⟩, fun h3 hd => ⟨fun i hi hq => ?_, fun hdl i hi hq => ?_⟩,
    fun hn i hi => ?_, fun hn i hi => ?_⟩
  -- the same controls and HCR_EL2.TGE at EL0
  · refine (husers i hi).el2 ?_
    rw [dcc32UserChain_el0 he hu]
    exact dcc32Guest_el2 h2 (by grind)
  · refine (mrcDbgdidr_obeys hc t).el2 ?_
    rw [dcc32UserChain_el0 he hu]
    exact dcc32Guest_el2 h2 (by rw [← Bool.or_assoc s.tge]; exact hd)
  · exact (romAccesses32_obey hc t t2 i hi).el2 (tdra32Chain_el0_el2 he hu h2 hd)
  -- MDCR_EL3.TDCC and TDA, and SDCR.TDCC, for the DCC
  · exact (dcc32All_obey hc t p u w rn imm8 (State.NoEl2Check.ne_el0 hq) i hi).trap
      ((dcc32UserChain_quiet_dcc hq).trans (dcc32Tail_el3 h3 hd))
  · exact (dcc32All_obey hc t p u w rn imm8 (State.NoEl2Check.ne_el0 hq) i hi).monitor
      ((dcc32UserChain_quiet_dcc hq).trans (dcc32Tail_monitor h3 hd))
  · exact (husers i hi).trap ((dcc32UserChain_el0_quiet (dcc := true) he hu hq).trans (dcc32Tail_el3 h3 hd))
  · exact (husers i hi).monitor ((dcc32UserChain_el0_quiet (dcc := true) he hu hq).trans (dcc32Tail_monitor h3 hd))
  -- MDCR_EL3.TDA
  · have hdidr : dcc32UserChain false s = .trap .el3 :=
      (dcc32UserChain_quiet (s := s) (dcc := false) hq).trans (dcc32Tail_el3 h3 hd)
    rw [List.cons_append, List.mem_cons] at hi
    rcases hi with rfl | hi
    · exact (mrcDbgdidr_obeys hc t).trap hdidr
    · exact (tda32All_obey hc n t i hi).trap (tda32Chain_el3 h3 hd hq)
  · exact (mrcDbgdidr_obeys hc t).trap
      ((dcc32UserChain_el0_quiet (dcc := false) he hu (by rwa [Bool.false_and, Bool.or_false])).trans
        (dcc32Tail_el3 h3 hd))
  -- MDCR_EL3.TDOSA
  · exact (osAccesses32_obey hc t i hi).trap (tdosa32Chain_el3 h3 hd rfl (by rw [Bool.and_true]; exact hq))
  · exact (osdlrAccesses32_obey hc t i hi).trap (tdosa32Chain_el3 h3 hd hdl hq)
  -- a register that is not implemented
  · exact (breakAccesses32_obey hc n t i hi).undefined (break32Chain_unimplemented hn)
  · exact (watchAccesses32_obey hc n t i hi).undefined (break32Chain_unimplemented hn)

end Sys2Proof.Machine
end

section
/-! SUPPORT. EL0: the registers of EL1 are Undefined there, and MDSCR_EL1.TDCC and PMUSERENR_EL0 come before every other
check (41_debug_traps.md R106, R110, R134, R137; 42_pmu_controls.md R163, R168, R169). -/

namespace Sys2Proof.Machine

/-! ### The chains at EL0 -/

section Chains

variable {s : State} (he : s.ps.el = .el0)
include he

theorem dccChain_el0 : dccChain s = .undefined := by simp only [dccChain, he]

theorem tdaChain_el0 (read : Bool) (bit : Nat) (acc acc' : Decision) : tdaChain read bit acc acc' s = .undefined := by
  simp only [tdaChain, he]

theorem breakChain_el0 (read : Bool) (bit : Nat) (n : BitVec 4) (count : Nat) :
    breakChain read bit n count s = .undefined := by
  unfold breakChain
  simp only [tdaChain_el0 he, ite_self]

theorem mdrarChain_el0 : mdrarChain s = .undefined := by simp only [mdrarChain, he]

theorem tdosaChain_el0 (read : Bool) (bit : Nat) (cf c2 c3 : Bool) : tdosaChain read bit cf c2 c3 s = .undefined := by
  simp only [tdosaChain, he]

theorem speChain_el0 (control read : Bool) (bit : Nat) (acc : Decision) :
    speChain control read bit acc s = .undefined := by
  simp only [speChain, he, ite_self]

theorem pmbidrChain_el0 : pmbidrChain s = .undefined := by simp only [pmbidrChain, he, if_true, ite_self]

theorem trfcrChain_el0 (read : Bool) : trfcrChain read s = .undefined := by simp only [trfcrChain, he, ite_self]

theorem pmuChain_el0_undefined (present : Bool) (fgt : Option (Bool × Nat)) (range : Option Decision) (pmcr : Bool)
    (acc : Decision) : pmuChain present .undefinedAtEl0 fgt range pmcr acc s = .undefined := by
  simp only [pmuChain, he, if_true, ite_self]

theorem tda32Chain_el0 : tda32Chain s = .undefined := by simp only [tda32Chain, he]

theorem break32Chain_el0 (n : BitVec 4) (count : Nat) : break32Chain n count s = .undefined := by
  simp only [break32Chain, tda32Chain_el0 he, ite_self]

theorem dcc32Chain_el0 : dcc32Chain s = .undefined := by simp only [dcc32Chain, he]

theorem tdosa32Chain_el0 (c2 c3 : Bool) : tdosa32Chain c2 c3 s = .undefined := by simp only [tdosa32Chain, he]

theorem trfcr32Chain_el0 : trfcr32Chain s = .undefined := by simp only [trfcr32Chain, he, ite_self]

theorem tdra32Chain_el0_closed (hu : s.udccDis = true) : tdra32Chain s = s.userDecision := by
  simp only [tdra32Chain, he, user32First_closed hu]

theorem pmu32Chain_el0_undefined (present t9 : Bool) (fgt : Option (Bool × Nat)) (range : Option Decision32)
    (pmcr : Bool) (acc : Decision32) : pmu32Chain present .undefinedAtEl0 t9 fgt range pmcr acc s = .undefined := by
  simp only [pmu32Chain, he, if_true, ite_self]

end Chains

/-! ### A closed enable of PMUSERENR_EL0 (42_pmu_controls.md R168, R169) -/

section Closed

variable {s : State} {gate : UserGate}

theorem gate_ne_undefined (h : s.gateClosed gate = true) : gate ≠ .undefinedAtEl0 := by
  rintro rfl
  cases h

theorem pmuChain_closed (hp : s.cfg.havePMUv3 = true) (he : s.ps.el = .el0) (hg : s.gateClosed gate = true)
    (fgt : Option (Bool × Nat)) (range : Option Decision) (pmcr : Bool) (acc : Decision) :
    pmuChain s.cfg.havePMUv3 gate fgt range pmcr acc s =
      .trap (if (s.a64EL2 && s.tge) = true then .el2 else .el1) := by
  simp only [pmuChain, hp, he, hg, if_neg (gate_ne_undefined hg), if_true, Bool.not_true, Bool.false_eq_true, if_false]
  split <;> rfl

theorem counterChain_closed (hp : s.cfg.havePMUv3 = true) (he : s.ps.el = .el0) (hg : s.gateClosed gate = true)
    (fgt : Bool × Nat) (n : Nat) (indirect type : Bool) :
    counterChain gate fgt n indirect type s = .trap (if (s.a64EL2 && s.tge) = true then .el2 else .el1) := by
  unfold counterChain
  rw [pmuChain_closed hp he hg, pmuChain_closed hp he hg, ite_self]

theorem pmu32Chain_closed {present : Bool} (hp : present = true) (he : s.ps.el = .el0)
    (hg : s.gateClosed gate = true) (t9 : Bool) (fgt : Option (Bool × Nat)) (range : Option Decision32) (pmcr : Bool)
    (acc : Decision32) : pmu32Chain present gate t9 fgt range pmcr acc s = s.userDecision := by
  unfold State.userDecision
  simp only [pmu32Chain, hp, he, hg, if_neg (gate_ne_undefined hg), Bool.not_true, Bool.false_eq_true, if_false]
  cases s.inp.el1A32 <;> simp

end Closed

/-- The number of an event counter is spread over op2 and CRm[1:0] of the syndrome (30_encoding.md section 5.1). -/
theorem iss18_counter (group : BitVec 2) (n : BitVec 5) (read : Bool) :
    iss18 ⟨3, 3, 14, group ++ n.extractLsb' 3 2, n.extractLsb' 0 3⟩ 0 read =
      iss18 ⟨3, 3, 14, group ++ 0#2, 0⟩ 0 read ||| ((n &&& 7).setWidth 25 <<< 17) |||
        ((n >>> 3).setWidth 25 <<< 1) := by
  refine BitVec.eq_of_getLsbD_eq fun j hj => ?_
  simp only [iss18, BitVec.getLsbD_or, BitVec.getLsbD_shiftLeft, BitVec.getLsbD_append]
  interval_cases j <;> simp

/-! ### The AArch32 Performance Monitors registers (42_pmu_controls.md R168) -/

section Pmu32

variable {s zero : State} {i : Instr} {c : Cond} {ec : BitVec 6} {iss : BitVec 25} {acc : Nat → State}

/-- A register that is no counter: its chain has no range check. -/
theorem obeys_pmu32 {present t9 pmcr : Bool} {gate : UserGate} {fgt : Option (Bool × Nat)} (hc : s.condPassed c = true)
    (hx : exec i s = run32 c ec iss (pmu32Chain present gate t9 fgt none pmcr (.access 0) s) acc zero s := by rfl)
    (ht : ∀ T, i.trapped s T = s.takeTrap T ec iss := by intro; rfl) :
    ∃ range a, s.Obeys32 i (pmu32Chain present gate t9 fgt range pmcr a s) :=
  ⟨none, .access 0, obeys_run32 hc hx ht⟩

/-- A counter register: the same chain, with the range check of R167, or for PMCCFILTR through PMXEVTYPER without. -/
theorem obeys_counter32 {gate : UserGate} {t9 indirect type : Bool} {fgt : Bool × Nat} {n : Nat}
    (hc : s.condPassed c = true)
    (hx : exec i s = run32 c ec iss (counter32Chain gate t9 fgt n indirect type s) acc zero s := by rfl)
    (ht : ∀ T, i.trapped s T = s.takeTrap T ec iss := by intro; rfl) :
    ∃ range a, s.Obeys32 i (pmu32Chain s.cfg.havePMUv3 gate t9 (some fgt) range false a s) := by
  have ho : s.Obeys32 i (counter32Chain gate t9 fgt n indirect type s) := obeys_run32 hc hx ht
  unfold counter32Chain at ho
  split at ho
  · exact ⟨_, _, ho⟩
  · exact ⟨_, _, ho⟩

theorem pmuAccesses32_obey (hc : s.condPassed c = true) (t t2 : RReg) (n : BitVec 5) :
    ∀ a ∈ s.pmuAccesses32 c t t2 n, ∃ range acc,
      s.Obeys32 a.instr (pmu32Chain a.present a.gate a.t9 a.fgt range a.pmcr acc s) := by
  simp only [State.pmuAccesses32, List.forall_mem_cons]
  exact ⟨obeys_pmu32 hc, obeys_pmu32 hc, obeys_pmu32 hc, obeys_pmu32 hc, obeys_pmu32 hc, obeys_pmu32 hc,
    obeys_pmu32 hc, obeys_pmu32 hc, obeys_pmu32 hc, obeys_pmu32 hc, obeys_pmu32 hc, obeys_pmu32 hc, obeys_pmu32 hc,
    obeys_pmu32 hc, obeys_pmu32 hc, obeys_pmu32 hc, obeys_pmu32 hc, obeys_counter32 hc, obeys_counter32 hc,
    obeys_counter32 hc, obeys_counter32 hc, obeys_pmu32 hc, obeys_pmu32 hc, obeys_pmu32 hc, obeys_pmu32 hc,
    obeys_pmu32 hc, obeys_pmu32 hc, obeys_pmu32 hc, obeys_pmu32 hc, obeys_pmu32 hc, obeys_pmu32 hc, obeys_pmu32 hc,
    obeys_counter32 hc, obeys_counter32 hc, obeys_counter32 hc, obeys_counter32 hc, obeys_pmu32 hc, obeys_pmu32 hc,
    List.forall_mem_nil _⟩

end Pmu32

/-- Settles O46: at EL0 the chain of a register of EL1 is Undefined, and a closed enable decides the chain of every
other register first. -/
theorem controlsAtEl0 : Obligations.ControlsAtEl0 := by
  unfold Obligations.ControlsAtEl0
  intro s t n
  refine ⟨fun he => ?_, fun he h1 hu => ?_, fun he h1 hu hh => ?_, fun hp he hg => ?_, fun hp he hg => ?_,
    fun hp he hg => ?_, fun hp he hg => ?_, fun he m a ha => ?_,
    fun c r r2 m p u w rn imm8 he hc =>
      ⟨fun i hi => ?_, fun hu i hi => ?_, fun a ha => ⟨fun hg => ?_, fun hp hg => ?_⟩⟩⟩
  -- the registers of EL1
  · have hdcc := dccChain_el0 he
    have htda := tdaChain_el0 he
    have htdosa := tdosaChain_el0 he
    have hpmu := pmuChain_el0_undefined he
    have hspe := speChain_el0 he
    have htrfcr := trfcrChain_el0 he
    exact ⟨runMrs_undefined hdcc, runMsr_undefined hdcc, runMrs_undefined hdcc, runMsr_undefined hdcc,
      runMrs_undefined hdcc, runMsr_undefined hdcc, runMrs_undefined (htda ..), runMsr_undefined (htda ..),
      runMrs_undefined (htda ..), runMsr_undefined (htda ..), runMrs_undefined (htda ..), runMsr_undefined (htda ..),
      runMrs_undefined (htda ..), runMsr_undefined (htda ..), runMrs_undefined (htda ..),
      runMrs_undefined (mdrarChain_el0 he), runMsr_undefined (htdosa ..), runMrs_undefined (htdosa ..),
      runMrs_undefined (htdosa ..), runMsr_undefined (htdosa ..), runMrs_undefined (htdosa ..),
      runMsr_undefined (htdosa ..), runMrs_undefined (hpmu ..), runMsr_undefined (hpmu ..),
      runMrs_undefined (hpmu ..), runMsr_undefined (hpmu ..), runMrs_undefined (hpmu ..), runMrs_undefined (hspe ..),
      runMsr_undefined (hspe ..), runMrs_undefined (hspe ..), runMsr_undefined (hspe ..), runMrs_undefined (hspe ..),
      runMsr_undefined (hspe ..), runMrs_undefined (hspe ..), runMsr_undefined (hspe ..), runMrs_undefined (hspe ..),
      runMsr_undefined (hspe ..), runMrs_undefined (hspe ..), runMsr_undefined (hspe ..), runMrs_undefined (hspe ..),
      runMrs_undefined (hspe ..), runMsr_undefined (hspe ..), runMrs_undefined (hspe ..), runMsr_undefined (hspe ..),
      runMrs_undefined (hspe ..), runMsr_undefined (hspe ..), runMrs_undefined (pmbidrChain_el0 he),
      runMrs_undefined (htrfcr ..), runMsr_undefined (htrfcr ..), runMsr_undefined (hpmu ..)⟩
  -- MDSCR_EL1.TDCC
  · exact exec_mdccsrEl0_trap t ((dccUserChain_el0 he).trans (dccEl0_user h1 hu))
  · exact exec_dtrAccesses_trap t
      ((dtrChain_eq_user hh).trans ((dccUserChain_el0 he).trans (dccEl0_user h1 hu)))
  -- PMUSERENR_EL0
  · have hplain := pmuChain_closed hp he hg
    have hcounter := counterChain_closed hp he hg
    exact ⟨runMrs_printed (hplain ..) rfl, runMsr_printed (hplain ..) rfl, runMrs_printed (hplain ..) rfl,
      runMsr_printed (hplain ..) rfl, runMrs_printed (hplain ..) rfl, runMsr_printed (hplain ..) rfl,
      runMrs_printed (hplain ..) rfl, runMsr_printed (hplain ..) rfl, runMrs_printed (hplain ..) rfl,
      runMrs_printed (hplain ..) rfl, runMsr_printed (hplain ..) rfl, runMrs_printed (hcounter ..) rfl,
      runMsr_printed (hcounter ..) rfl, runMsr_printed (hcounter ..) rfl, runMrs_printed (hplain ..) rfl,
      runMsr_printed (hplain ..) rfl, runMrs_printed (hplain ..) rfl, runMsr_printed (hplain ..) rfl,
      runMsr_printed (hcounter ..) (iss18_counter 2 n false), runMrs_printed (hcounter ..) (iss18_counter 3 n true),
      runMsr_printed (hcounter ..) (iss18_counter 3 n false)⟩
  · exact runMsr_printed (pmuChain_closed hp he hg ..) rfl
  · have hplain := pmuChain_closed hp he hg
    have hcounter := counterChain_closed hp he hg
    exact ⟨runMrs_printed (hplain ..) rfl, runMsr_printed (hplain ..) rfl, runMrs_printed (hcounter ..) rfl,
      runMrs_printed (hcounter ..) (iss18_counter 2 n true)⟩
  · exact runMrs_printed (pmuChain_closed hp he hg ..) rfl
  -- the breakpoint and watchpoint registers
  · rcases List.mem_append.mp ha with ha | ha
    · exact (breakAccesses_obey s m t a ha).undefined (breakChain_el0 he ..)
    · exact (watchAccesses_obey s m t a ha).undefined (breakChain_el0 he ..)
  -- AArch32: the registers of EL1
  · simp only [List.mem_append, List.mem_cons, List.not_mem_nil, or_false] at hi
    rcases hi with (((((hi | hi) | hi) | hi) | hi) | hi) | rfl | rfl
    · exact (tdaAccesses32_obey hc r i hi).undefined (tda32Chain_el0 he)
    · exact (breakAccesses32_obey hc m r i hi).undefined (break32Chain_el0 he ..)
    · exact (watchAccesses32_obey hc m r i hi).undefined (break32Chain_el0 he ..)
    · exact (dccAccesses32_obey hc r i hi).undefined (dcc32Chain_el0 he)
    · exact (osAccesses32_obey hc r i hi).undefined (tdosa32Chain_el0 he ..)
    · exact (osdlrAccesses32_obey hc r i hi).undefined (tdosa32Chain_el0 he ..)
    · exact run32_undefined hc (trfcr32Chain_el0 he)
    · exact run32_undefined hc (trfcr32Chain_el0 he)
  -- AArch32: UDCCdis
  · simp only [List.cons_append, List.mem_cons, List.mem_append] at hi
    rcases hi with rfl | rfl | hi | hi
    · exact (mrcDbgdidr_obeys hc r).user (dcc32UserChain_el0_closed he hu false)
    · exact (mrcDbgdscrint_obeys hc r).user (dcc32UserChain_el0_closed he hu true)
    · exact (romAccesses32_obey hc r r2 i hi).user (tdra32Chain_el0_closed he hu)
    · exact (dcc32Users_obey hc r p u w rn imm8 i (List.mem_cons_of_mem _ hi)).user
        (dcc32UserChain_el0_closed he hu true)
  -- AArch32: PMUSERENR
  · obtain ⟨range, acc, hobeys⟩ := pmuAccesses32_obey hc r r2 n a ha
    rw [hg] at hobeys
    exact hobeys.undefined (pmu32Chain_el0_undefined he ..)
  · obtain ⟨range, acc, hobeys⟩ := pmuAccesses32_obey hc r r2 n a ha
    exact hobeys.user (pmu32Chain_closed hp he hg ..)

end Sys2Proof.Machine
end

section
/-! SUPPORT. The Performance Monitors registers where no check stops the access: each chain decides for the access, and
the form of the instruction does it (42_pmu_controls.md R152 to R169). -/

namespace Sys2Proof.Machine

/-! ### A64 -/

section A64

variable {s : State} {e : SysEnc} {t : XReg} {present pmcr : Bool} {gate : UserGate}

/-- A read of a register that is no counter, where no check stops it. -/
theorem runMrs_pmuOpen {fgt : Option (Bool × Nat)} {read : Nat → Word} (h : s.pmuOpen present gate fgt pmcr = true) :
    runMrs e t (pmuChain present gate fgt none pmcr (.access 0) s) read s = .next ((s.setX t (read 0)).advance) :=
  runMrs_access (pmuChain_open h _)

/-- A write of a register that is no counter, where no check stops it. -/
theorem runMsr_pmuOpen {fgt : Option (Bool × Nat)} {write : Nat → Word → State}
    (h : s.pmuOpen present gate fgt pmcr = true) :
    runMsr e t (pmuChain present gate fgt none pmcr (.access 0) s) write s = .next ((write 0 (s.getX t)).advance) :=
  runMsr_access (pmuChain_open h _)

end A64

/-- Settles O29: register by register, the chain of R169 is open, and the form reads or writes the register. -/
theorem pmuRegistersComplete : Obligations.PmuRegistersComplete := by
  unfold Obligations.PmuRegistersComplete
  intro s t
  exact ⟨runMrs_pmuOpen, runMsr_pmuOpen,
    fun h => ⟨runMrs_pmuOpen h, runMrs_pmuOpen h⟩, fun h => ⟨runMsr_pmuOpen h, runMsr_pmuOpen h⟩,
    fun h => ⟨runMrs_pmuOpen h, runMrs_pmuOpen h⟩, fun h => ⟨runMsr_pmuOpen h, runMsr_pmuOpen h⟩,
    runMsr_pmuOpen, runMrs_pmuOpen, runMsr_pmuOpen,
    fun h => ⟨runMrs_pmuOpen h, runMrs_pmuOpen h⟩,
    runMrs_pmuOpen, runMsr_pmuOpen, runMrs_pmuOpen, runMsr_pmuOpen,
    fun h => ⟨runMrs_pmuOpen h, runMrs_pmuOpen h⟩, fun h => ⟨runMsr_pmuOpen h, runMsr_pmuOpen h⟩,
    runMrs_pmuOpen, runMrs_pmuOpen, runMsr_pmuOpen⟩

/-- Settles O30: the chain of a counter register reaches the counter that is named, and that of PMXEVTYPER_EL0 with
SEL = 31 the filter of the cycle counter. -/
theorem counterRegistersComplete : Obligations.CounterRegistersComplete := by
  unfold Obligations.CounterRegistersComplete
  intro s t n
  exact ⟨fun h hn => runMrs_access (counterChain_open true true h hn),
    fun hn h => runMrs_access (counterChain_31 hn h),
    fun h hn => runMsr_access (counterChain_open true true h hn),
    fun hn h => runMsr_access (counterChain_31 hn h),
    fun h hn => runMrs_access (counterChain_open true false h hn),
    fun h hn => runMsr_access (counterChain_open true false h hn),
    fun h hn => runMrs_access (counterChain_open false false h hn),
    fun h hn => runMsr_access (counterChain_open false false h hn),
    fun h hn => runMrs_access (counterChain_open false true h hn),
    fun h hn => runMsr_access (counterChain_open false true h hn)⟩

/-! ### AArch32 -/

/-- An AArch32 access to a register that is no counter, where no check stops it. -/
theorem run32_pmuOpen {s zero : State} {c : Cond} {ec : BitVec 6} {iss : BitVec 25} {acc : Nat → State}
    {present t9 pmcr : Bool} {gate : UserGate} {fgt : Option (Bool × Nat)} (hc : s.condPassed c = true)
    (h : s.pmu32Open present gate t9 fgt pmcr = true) :
    run32 c ec iss (pmu32Chain present gate t9 fgt none pmcr (.access 0) s) acc zero s = .next ((acc 0).advance) :=
  run32_access hc (pmu32Chain_open h _)

/-- Settles O34: under a condition that passes the chain of R168 is open, and the form reads or writes the register. -/
theorem pmuRegisters32Complete : Obligations.PmuRegisters32Complete := by
  unfold Obligations.PmuRegisters32Complete
  intro s c t
  exact ⟨run32_pmuOpen, run32_pmuOpen,
    fun hc h => ⟨run32_pmuOpen hc h, run32_pmuOpen hc h⟩, fun hc h => ⟨run32_pmuOpen hc h, run32_pmuOpen hc h⟩,
    fun hc h => ⟨run32_pmuOpen hc h, run32_pmuOpen hc h⟩, fun hc h => ⟨run32_pmuOpen hc h, run32_pmuOpen hc h⟩,
    run32_pmuOpen, run32_pmuOpen, run32_pmuOpen,
    fun hc h => ⟨run32_pmuOpen hc h, run32_pmuOpen hc h⟩, fun hc h => ⟨run32_pmuOpen hc h, run32_pmuOpen hc h⟩,
    run32_pmuOpen, run32_pmuOpen, run32_pmuOpen, run32_pmuOpen,
    fun hc h => ⟨run32_pmuOpen hc h, run32_pmuOpen hc h⟩, fun hc h => ⟨run32_pmuOpen hc h, run32_pmuOpen hc h⟩,
    run32_pmuOpen, run32_pmuOpen, run32_pmuOpen⟩

/-- Settles O35: the AArch32 chain of a counter register reaches the counter that is named, and that of PMXEVTYPER with
SEL = 31 the filter of the cycle counter. -/
theorem counterRegisters32Complete : Obligations.CounterRegisters32Complete := by
  unfold Obligations.CounterRegisters32Complete
  intro s c t n
  exact ⟨fun hc h hn => run32_access hc (counter32Chain_open true true h hn),
    fun hc hn h => run32_access hc (counter32Chain_31 hn h),
    fun hc h hn => run32_access hc (counter32Chain_open true true h hn),
    fun hc hn h => run32_access hc (counter32Chain_31 hn h),
    fun hc h hn => run32_access hc (counter32Chain_open true false h hn),
    fun hc h hn => run32_access hc (counter32Chain_open true false h hn),
    fun hc h hn => run32_access hc (counter32Chain_open false false h hn),
    fun hc h hn => run32_access hc (counter32Chain_open false false h hn),
    fun hc h hn => run32_access hc (counter32Chain_open false true h hn),
    fun hc h hn => run32_access hc (counter32Chain_open false true h hn)⟩

end Sys2Proof.Machine
end

section
/-! SUPPORT. The Performance Monitors registers where a check stops the access, A64: what each access does with the
decision of its chain, the traps with the syndromes that the rules print, and the range check of HPMN
(42_pmu_controls.md R150 to R169). -/

namespace Sys2Proof.Machine

/-! ### An access under its chain -/

/-- The counter whose range is checked by an access to counter `n`: none for PMXEVTYPER with SEL = 31, which is
PMCCFILTR (42_pmu_controls.md R160). -/
def checkedCounter (n : Nat) (indirect type : Bool) : Option Nat :=
  if type && indirect && n == 31 then none else some n

theorem checkedCounter_type (n : Nat) : checkedCounter n true true = if n = 31 then none else some n := by
  simp [checkedCounter]

theorem checkedCounter_of_ne {n : Nat} {indirect type : Bool} (h : type = true → indirect = true → n ≠ 31) :
    checkedCounter n indirect type = some n := by
  cases indirect <;> cases type <;> simp_all [checkedCounter]

/-- The chain of a counter register is that of R169 with the range check of its counter. -/
theorem counterChain_eq (gate : UserGate) (fgt : Bool × Nat) (n : Nat) (indirect type : Bool) (s : State) :
    ∃ acc, counterChain gate fgt n indirect type s =
      pmuChain s.cfg.havePMUv3 gate (some fgt) ((checkedCounter n indirect type).bind s.hpmnCheck) false acc s := by
  unfold counterChain checkedCounter
  split
  · exact ⟨_, rfl⟩
  · exact ⟨_, rfl⟩

section Obey

variable {s : State} {i : Instr} {e : SysEnc} {t : XReg}

theorem obeys_mrs_counter {gate : UserGate} {fgt : Bool × Nat} {n : Nat} {indirect type : Bool} {k : Option Nat}
    {read : Nat → Word} (hk : checkedCounter n indirect type = k)
    (hx : exec i s = runMrs e t (counterChain gate fgt n indirect type s) read s := by rfl)
    (ht : ∀ T, i.trapped s T = s.takeTrap T 0x18 (iss18 e t true) := by intro; rfl) :
    ∃ acc, s.Obeys i (pmuChain s.cfg.havePMUv3 gate (some fgt) (k.bind s.hpmnCheck) false acc s) := by
  obtain ⟨acc, hacc⟩ := counterChain_eq gate fgt n indirect type s
  exact ⟨acc, hk ▸ hacc ▸ obeys_mrs hx ht⟩

theorem obeys_msr_counter {gate : UserGate} {fgt : Bool × Nat} {n : Nat} {indirect type : Bool} {k : Option Nat}
    {write : Nat → Word → State} (hk : checkedCounter n indirect type = k)
    (hx : exec i s = runMsr e t (counterChain gate fgt n indirect type s) write s := by rfl)
    (ht : ∀ T, i.trapped s T = s.takeTrap T 0x18 (iss18 e t false) := by intro; rfl) :
    ∃ acc, s.Obeys i (pmuChain s.cfg.havePMUv3 gate (some fgt) (k.bind s.hpmnCheck) false acc s) := by
  obtain ⟨acc, hacc⟩ := counterChain_eq gate fgt n indirect type s
  exact ⟨acc, hk ▸ hacc ▸ obeys_msr hx ht⟩

theorem pmuAccesses_obey (s : State) (t : XReg) (n : BitVec 5) :
    ∀ a ∈ s.pmuAccesses t n, ∃ acc,
      s.Obeys a.instr (pmuChain a.present a.gate a.fgt (a.counter.bind s.hpmnCheck) a.pmcr acc s) := by
  have hsel := checkedCounter_type s.pmselrSel
  simp only [State.pmuAccesses, List.forall_mem_cons]
  exact ⟨⟨_, obeys_mrs⟩, ⟨_, obeys_msr⟩, ⟨_, obeys_mrs⟩, ⟨_, obeys_msr⟩, ⟨_, obeys_mrs⟩, ⟨_, obeys_msr⟩,
    ⟨_, obeys_mrs⟩, ⟨_, obeys_msr⟩, ⟨_, obeys_msr⟩, ⟨_, obeys_mrs⟩, ⟨_, obeys_msr⟩, ⟨_, obeys_mrs⟩,
    ⟨_, obeys_mrs⟩, ⟨_, obeys_mrs⟩, ⟨_, obeys_msr⟩,
    obeys_mrs_counter hsel, obeys_msr_counter hsel, obeys_mrs_counter rfl, obeys_msr_counter rfl,
    ⟨_, obeys_mrs⟩, ⟨_, obeys_msr⟩, ⟨_, obeys_mrs⟩, ⟨_, obeys_msr⟩, ⟨_, obeys_mrs⟩, ⟨_, obeys_msr⟩,
    ⟨_, obeys_mrs⟩, ⟨_, obeys_msr⟩, ⟨_, obeys_mrs⟩, ⟨_, obeys_mrs⟩, ⟨_, obeys_msr⟩,
    obeys_mrs_counter rfl, obeys_msr_counter rfl, obeys_mrs_counter rfl, obeys_msr_counter rfl,
    List.forall_mem_nil _⟩

end Obey

/-! ### What the chain decides -/

section Chain

variable {s : State} {present pmcr : Bool} {gate : UserGate}

/-- The access reaches the checks of EL2: it is at EL1, or at EL0 with its enable open (42_pmu_controls.md R169). -/
def State.PastUserGate (s : State) (gate : UserGate) : Prop :=
  s.ps.el = .el1 ∨ (s.ps.el = .el0 ∧ gate ≠ .undefinedAtEl0 ∧ s.gateClosed gate = false)

theorem State.PastUserGate.guest (hg : s.PastUserGate gate) : s.ps.el = .el0 ∨ s.ps.el = .el1 := by
  rcases hg with he | ⟨he, -⟩
  · exact .inr he
  · exact .inl he

theorem pastUserGate_el1 (he : s.ps.el = .el1) : s.PastUserGate gate := .inl he

theorem pastUserGate_el0 (he : s.ps.el = .el0) (hg : s.gateClosed gate = false)
    (h0 : gate ≠ .undefinedAtEl0 := by decide) : s.PastUserGate gate := .inr ⟨he, h0, hg⟩

/-- TPM, and TPMCR for PMCR_EL0, trap to EL2, whatever the fine-grained bit. -/
theorem pmuChain_tpm (hp : present = true) (hg : s.PastUserGate gate) (h2 : s.a64EL2 = true)
    (ht : (s.tpm || (pmcr && s.tpmcr)) = true) (fgt : Option (Bool × Nat)) (acc : Decision) :
    pmuChain present gate fgt none pmcr acc s = .trap .el2 := by
  have hcontrol (rest : Decision) :
      (if s.a64EL2 && s.tpm then .trap .el2 else if pmcr && s.a64EL2 && s.tpmcr then .trap .el2 else rest) =
        Decision.trap .el2 := by
    cases htpm : s.tpm
    · rw [htpm, Bool.false_or] at ht
      simp [h2, ht]
    · simp [h2]
  unfold pmuChain
  rcases hg with he | ⟨he, h0, hc⟩
  · simp only [hp, he, Option.getD_none, hcontrol, ite_self, Bool.not_true, Bool.false_eq_true, if_false]
  · simp only [hp, he, if_neg h0, hc, Option.getD_none, hcontrol, ite_self, Bool.not_true, Bool.false_eq_true, if_false]

/-- So TPM does for a counter that the level may access, where the range check passes. -/
theorem counterChain_tpm (hp : s.cfg.havePMUv3 = true) (hg : s.PastUserGate gate) (h2 : s.a64EL2 = true)
    (ht : s.tpm = true) {n : Nat} (hn : s.counterOpen n = true) (fgt : Bool × Nat) (indirect type : Bool) :
    counterChain gate fgt n indirect type s = .trap .el2 := by
  obtain ⟨acc, hacc⟩ := counterChain_eq gate fgt n indirect type s
  rw [hacc, checkedCounter_of_ne (fun _ _ => counter_ne_31 hn), Option.bind_some, hpmnCheck_open hn hg.guest,
    pmuChain_tpm hp hg h2 (by rw [ht]; rfl)]

theorem pmuChain_absent (fgt : Option (Bool × Nat)) (range : Option Decision) (acc : Decision) :
    pmuChain false gate fgt range pmcr acc s = .undefined := rfl

/-- A range check that stops the access decides, before TPM. -/
theorem pmuChain_range_stops {fgt : Option (Bool × Nat)} (hp : present = true)
    (hg : (s.ps.el = .el1 ∧ (fgt.any fun p => s.fgt1 p.1 p.2) = false) ∨
      (s.ps.el = .el0 ∧ gate ≠ .undefinedAtEl0 ∧ s.gateClosed gate = false ∧
        (fgt.any fun p => s.fgt0 p.1 p.2) = false)) (d acc : Decision) :
    pmuChain present gate fgt (some d) pmcr acc s = d := by
  unfold pmuChain
  rcases hg with ⟨he, hf⟩ | ⟨he, h0, hc, hf⟩
  · simp [hp, he, hf]
  · simp [hp, he, h0, hc, hf]

theorem counterFree_check {a : PmuAccess} (h : s.counterFree a = true) (hg : s.ps.el = .el0 ∨ s.ps.el = .el1) :
    a.counter.bind s.hpmnCheck = none := by
  unfold State.counterFree at h
  cases ha : a.counter with
  | none => rfl
  | some n =>
    rw [ha, Option.all_some] at h
    exact hpmnCheck_open h hg

theorem el2Quiet_counterFree {a : PmuAccess} (hq : s.el2Quiet a = true) (hg : s.ps.el = .el0 ∨ s.ps.el = .el1) :
    s.counterFree a = true := by
  unfold State.el2Quiet at hq
  rcases hg with he | he <;> simp_all

/-! ### The range check of R167 -/

theorem hpmnCheck_absent {n : Nat} (hf : s.cfg.haveFGT = true) (h2 : s.a64EL2 = true) (hn : s.pmcrN ≤ n) :
    s.hpmnCheck n = some .undefined := by
  simp [State.hpmnCheck, hf, h2, hn]

theorem hpmnCheck_reserved {n : Nat} (hf : s.cfg.haveFGT = true) (h2 : s.a64EL2 = true) (hl : s.hpmnLegal = true)
    (hn : s.hpmn ≤ n) (hN : n < s.pmcrN) : s.hpmnCheck n = some (.trap .el2) := by
  have hpart := partHpmn_legal (haveEL2_of_enabled (a64EL2_spec h2).1) hl .rangeTest n
  simp [State.hpmnCheck, hf, h2, hpart, hn, Nat.not_le.mpr hN]

end Chain

/-! ### The traps -/

section Printed

variable {s : State} {n : BitVec 5} {T : EL} (t : XReg)

/-- A trapped read of counter `n` by name: the number is spread over op2 and CRm[1:0] of the syndrome. -/
theorem exec_counterRead_trap (h : counterChain gateER (true, 12) n.toNat false false s = .trap T) :
    exec (.mrsPmevcntrEl0 n t) s = .next (s.takeTrap T 0x18 (0x30F811 ||| ((n &&& 7).setWidth 25 <<< 17) |||
      ((n >>> 3).setWidth 25 <<< 1) ||| (t.setWidth 25 <<< 5))) :=
  runMrs_printed h (iss18_counter 2 n true)

theorem exec_counterWrite_trap (h : counterChain gateEN (false, 12) n.toNat false false s = .trap T) :
    exec (.msrPmevcntrEl0 n t) s = .next (s.takeTrap T 0x18 (0x30F810 ||| ((n &&& 7).setWidth 25 <<< 17) |||
      ((n >>> 3).setWidth 25 <<< 1) ||| (t.setWidth 25 <<< 5))) :=
  runMsr_printed h (iss18_counter 2 n false)

theorem exec_typeRead_trap (h : counterChain gateEN (true, 13) n.toNat false true s = .trap T) :
    exec (.mrsPmevtyperEl0 n t) s = .next (s.takeTrap T 0x18 (0x30F819 ||| ((n &&& 7).setWidth 25 <<< 17) |||
      ((n >>> 3).setWidth 25 <<< 1) ||| (t.setWidth 25 <<< 5))) :=
  runMrs_printed h (iss18_counter 3 n true)

theorem exec_typeWrite_trap (h : counterChain gateEN (false, 13) n.toNat false true s = .trap T) :
    exec (.msrPmevtyperEl0 n t) s = .next (s.takeTrap T 0x18 (0x30F818 ||| ((n &&& 7).setWidth 25 <<< 17) |||
      ((n >>> 3).setWidth 25 <<< 1) ||| (t.setWidth 25 <<< 5))) :=
  runMsr_printed h (iss18_counter 3 n false)

end Printed

/-- Settles O40: TPM and TPMCR decide the chain at EL1 and, where the enable is open, at EL0, and the fine-grained bit,
the EL3 control and a missing register decide it for each access of the list. -/
theorem pmuTraps : Obligations.PmuTraps := by
  unfold Obligations.PmuTraps
  intro s t n
  refine ⟨fun h2 hp => ?_, fun a ha => ?_⟩
  · have plain {gate : UserGate} (ht : s.tpm = true) (hg : s.PastUserGate gate) (fgt : Option (Bool × Nat))
        (pmcr : Bool) : pmuChain s.cfg.havePMUv3 gate fgt none pmcr (.access 0) s = .trap .el2 :=
      pmuChain_tpm hp hg h2 (by rw [ht]; rfl) fgt _
    have pmcr (ht : s.tpmcr = true) (hg : s.PastUserGate gateEN) (fgt : Option (Bool × Nat)) :
        pmuChain s.cfg.havePMUv3 gateEN fgt none true (.access 0) s = .trap .el2 :=
      pmuChain_tpm hp hg h2 (by rw [ht]; exact Bool.or_true _) fgt _
    refine ⟨fun he ht => ?_, fun he ht hn => ?_, fun he ht h4 => ?_, fun he ht hn => ?_, fun he ht hg => ?_,
      fun he ht hg => ?_, fun he ht hg => ?_, fun he ht hg => ?_, fun he ht hg hn => ?_, fun he ht hg hn => ?_,
      fun he ht => ?_, fun he ht hg hn => ?_, fun he ht hg hn => ?_, fun he ht => ?_, fun he ht hg => ?_⟩
    -- TPM at EL1
    · have trap {gate : UserGate} := plain (gate := gate) ht (pastUserGate_el1 he)
      exact ⟨runMrs_printed (trap ..) rfl, runMsr_printed (trap ..) rfl, runMrs_printed (trap ..) rfl,
        runMsr_printed (trap ..) rfl, runMrs_printed (trap ..) rfl, runMsr_printed (trap ..) rfl,
        runMrs_printed (trap ..) rfl, runMsr_printed (trap ..) rfl, runMsr_printed (trap ..) rfl,
        runMrs_printed (trap ..) rfl, runMsr_printed (trap ..) rfl, runMrs_printed (trap ..) rfl,
        runMrs_printed (trap ..) rfl, runMrs_printed (trap ..) rfl, runMsr_printed (trap ..) rfl,
        runMrs_printed (trap ..) rfl, runMsr_printed (trap ..) rfl, runMrs_printed (trap ..) rfl,
        runMsr_printed (trap ..) rfl, runMrs_printed (trap ..) rfl, runMsr_printed (trap ..) rfl,
        runMrs_printed (trap ..) rfl, runMsr_printed (trap ..) rfl, runMrs_printed (trap ..) rfl,
        runMsr_printed (trap ..) rfl⟩
    · have trap {gate : UserGate} := counterChain_tpm (gate := gate) hp (pastUserGate_el1 he) h2 ht hn
      exact ⟨runMrs_printed (trap ..) rfl, runMsr_printed (trap ..) rfl, runMrs_printed (trap ..) rfl,
        runMsr_printed (trap ..) rfl⟩
    · exact runMrs_printed (pmuChain_tpm (by rw [hp, h4]; rfl) (pastUserGate_el1 he) h2 (by rw [ht]; rfl) _ _) rfl
    · have trap {gate : UserGate} := counterChain_tpm (gate := gate) hp (pastUserGate_el1 he) h2 ht hn
      exact ⟨exec_counterRead_trap t (trap ..), exec_counterWrite_trap t (trap ..), exec_typeRead_trap t (trap ..),
        exec_typeWrite_trap t (trap ..)⟩
    -- TPM at EL0, by the enable of the access
    · have trap := plain ht (pastUserGate_el0 he hg)
      exact ⟨runMrs_printed (trap ..) rfl, runMsr_printed (trap ..) rfl, runMrs_printed (trap ..) rfl,
        runMsr_printed (trap ..) rfl, runMrs_printed (trap ..) rfl, runMsr_printed (trap ..) rfl,
        runMrs_printed (trap ..) rfl, runMsr_printed (trap ..) rfl, runMrs_printed (trap ..) rfl,
        runMrs_printed (trap ..) rfl, runMsr_printed (trap ..) rfl, runMrs_printed (trap ..) rfl,
        runMsr_printed (trap ..) rfl, runMrs_printed (trap ..) rfl, runMsr_printed (trap ..) rfl⟩
    · exact runMsr_printed (plain ht (pastUserGate_el0 he hg) ..) rfl
    · have trap := plain ht (pastUserGate_el0 he hg)
      exact ⟨runMrs_printed (trap ..) rfl, runMsr_printed (trap ..) rfl⟩
    · exact runMrs_printed (plain ht (pastUserGate_el0 he hg) ..) rfl
    · have trap := counterChain_tpm hp (pastUserGate_el0 he hg) h2 ht hn
      exact ⟨runMrs_printed (trap ..) rfl, runMsr_printed (trap ..) rfl, runMsr_printed (trap ..) rfl⟩
    · exact runMrs_printed (counterChain_tpm hp (pastUserGate_el0 he hg) h2 ht hn ..) rfl
    · exact runMrs_printed (plain ht (pastUserGate_el0 (gate := .open) he rfl) ..) rfl
    · exact exec_counterRead_trap t (counterChain_tpm hp (pastUserGate_el0 he hg) h2 ht hn ..)
    · have trap := counterChain_tpm hp (pastUserGate_el0 he hg) h2 ht hn
      exact ⟨exec_counterWrite_trap t (trap ..), exec_typeRead_trap t (trap ..), exec_typeWrite_trap t (trap ..)⟩
    -- TPMCR
    · exact ⟨runMrs_printed (pmcr ht (pastUserGate_el1 he) _) rfl, runMsr_printed (pmcr ht (pastUserGate_el1 he) _) rfl⟩
    · have trap := pmcr ht (pastUserGate_el0 he hg)
      exact ⟨runMrs_printed (trap _) rfl, runMsr_printed (trap _) rfl⟩
  · obtain ⟨acc, hobeys⟩ := pmuAccesses_obey s t n a ha
    refine ⟨fun hp ho hf => ?_, fun hp ho hq he h3 ht => ?_, fun hp => ?_⟩
    · exact hobeys.trap (pmuChain_fine hp ho hf _ _)
    · exact hobeys.trap (pmuChain_el3 hp ho hq he h3 ht
        (fun hg => counterFree_check (el2Quiet_counterFree hq hg) hg) _)
    · rw [hp] at hobeys
      exact hobeys.undefined (pmuChain_absent ..)

end Sys2Proof.Machine
end

section
/-! SUPPORT. The Performance Monitors registers where a check stops the access, AArch32, and TRFCR
(42_pmu_controls.md R150, R151, R167, R168; 43_spe_trace.md R209). -/

namespace Sys2Proof.Machine

/-! ### An access under its chain -/

/-- The chain of a counter register is that of R168 with the range check of its counter. -/
theorem counter32Chain_eq (gate : UserGate) (t9 : Bool) (fgt : Bool × Nat) (n : Nat) (indirect type : Bool)
    (s : State) :
    ∃ acc, counter32Chain gate t9 fgt n indirect type s = pmu32Chain s.cfg.havePMUv3 gate t9 (some fgt)
      (((checkedCounter n indirect type).bind s.hpmnCheck).map (Decision.to32 s)) false acc s := by
  unfold counter32Chain checkedCounter
  split
  · exact ⟨_, rfl⟩
  · exact ⟨_, rfl⟩

section Obey

variable {s : State} {c : Cond} (hc : s.condPassed c = true)
include hc

theorem obeys_counter32_checked {zero : State} {i : Instr} {ec : BitVec 6} {iss : BitVec 25} {acc : Nat → State}
    {gate : UserGate} {t9 indirect type : Bool} {fgt : Bool × Nat} {n : Nat} {k : Option Nat}
    (hk : checkedCounter n indirect type = k)
    (hx : exec i s = run32 c ec iss (counter32Chain gate t9 fgt n indirect type s) acc zero s := by rfl)
    (ht : ∀ T, i.trapped s T = s.takeTrap T ec iss := by intro; rfl) :
    ∃ a, s.Obeys32 i (pmu32Chain s.cfg.havePMUv3 gate t9 (some fgt)
      ((k.bind s.hpmnCheck).map (Decision.to32 s)) false a s) := by
  obtain ⟨a, ha⟩ := counter32Chain_eq gate t9 fgt n indirect type s
  exact ⟨a, hk ▸ ha ▸ obeys_run32 hc hx ht⟩

/-- Each access obeys the chain of R168 with the range check of the counter that it names. -/
theorem pmuAccesses32_obey_checked (t t2 : RReg) (n : BitVec 5) :
    ∀ a ∈ s.pmuAccesses32 c t t2 n, ∃ acc, s.Obeys32 a.instr (pmu32Chain a.present a.gate a.t9 a.fgt
      ((a.counter.bind s.hpmnCheck).map (Decision.to32 s)) a.pmcr acc s) := by
  have hsel := checkedCounter_type s.pmselrSel
  simp only [State.pmuAccesses32, List.forall_mem_cons]
  exact ⟨⟨_, obeys_run32 hc⟩, ⟨_, obeys_run32 hc⟩, ⟨_, obeys_run32 hc⟩, ⟨_, obeys_run32 hc⟩, ⟨_, obeys_run32 hc⟩,
    ⟨_, obeys_run32 hc⟩, ⟨_, obeys_run32 hc⟩, ⟨_, obeys_run32 hc⟩, ⟨_, obeys_run32 hc⟩, ⟨_, obeys_run32 hc⟩,
    ⟨_, obeys_run32 hc⟩, ⟨_, obeys_run32 hc⟩, ⟨_, obeys_run32 hc⟩, ⟨_, obeys_run32 hc⟩, ⟨_, obeys_run32 hc⟩,
    ⟨_, obeys_run32 hc⟩, ⟨_, obeys_run32 hc⟩,
    obeys_counter32_checked hc hsel, obeys_counter32_checked hc hsel, obeys_counter32_checked hc rfl,
    obeys_counter32_checked hc rfl,
    ⟨_, obeys_run32 hc⟩, ⟨_, obeys_run32 hc⟩, ⟨_, obeys_run32 hc⟩, ⟨_, obeys_run32 hc⟩, ⟨_, obeys_run32 hc⟩,
    ⟨_, obeys_run32 hc⟩, ⟨_, obeys_run32 hc⟩, ⟨_, obeys_run32 hc⟩, ⟨_, obeys_run32 hc⟩, ⟨_, obeys_run32 hc⟩,
    ⟨_, obeys_run32 hc⟩,
    obeys_counter32_checked hc rfl, obeys_counter32_checked hc rfl, obeys_counter32_checked hc rfl,
    obeys_counter32_checked hc rfl, ⟨_, obeys_run32 hc⟩, ⟨_, obeys_run32 hc⟩, List.forall_mem_nil _⟩

end Obey

/-! ### What the chain decides -/

section Chain

variable {s : State} {present pmcr : Bool} {gate : UserGate}

theorem counterFree_check32 {a : PmuAccess} (he : s.ps.el = .el0) (h : s.counterFree a = true) :
    (a.counter.bind s.hpmnCheck).map (Decision.to32 s) = none := by
  rw [counterFree_check h (.inl he), Option.map_none]

/-- At EL1 TPM, and TPMCR for PMCR, trap to EL2 in whichever Execution state it is using; HSTR.T9, which comes before,
does the same. -/
theorem pmu32Chain_tpm (hp : present = true) (he : s.ps.el = .el1) (h2 : s.el2Enabled = true)
    (ht : (s.tpm || (pmcr && s.tpmcr)) = true) (t9 : Bool) (fgt : Option (Bool × Nat)) (range : Option Decision32)
    (acc : Decision32) : (pmu32Chain present gate t9 fgt range pmcr acc s).ToEl2 s := by
  unfold pmu32Chain pmu32Traps
  simp only [hp, he, Bool.not_true, Bool.false_eq_true, if_false]
  rcases el2Enabled_cases h2 with ⟨h64, h32⟩ | ⟨h64, h32, ha⟩
  · left
    cases htpm : s.tpm <;> simp_all
  · refine .inr ⟨?_, ha⟩
    cases htpm : s.tpm <;> simp_all

theorem counter32Chain_tpm (hp : s.cfg.havePMUv3 = true) (he : s.ps.el = .el1) (h2 : s.el2Enabled = true)
    (ht : s.tpm = true) (t9 : Bool) (fgt : Bool × Nat) (n : Nat) (indirect type : Bool) :
    (counter32Chain gate t9 fgt n indirect type s).ToEl2 s := by
  obtain ⟨acc, hacc⟩ := counter32Chain_eq gate t9 fgt n indirect type s
  rw [hacc]
  exact pmu32Chain_tpm hp he h2 (by rw [ht]; rfl) ..

theorem pmu32Chain_absent (t9 : Bool) (fgt : Option (Bool × Nat)) (range : Option Decision32) (acc : Decision32) :
    pmu32Chain false gate t9 fgt range pmcr acc s = .undefined := rfl

/-- At EL0 a range check that stops the access decides, where HSTR.T9 and the fine-grained bit do not. -/
theorem pmu32Chain_range_stops {a : PmuAccess} (hp : a.present = true) (he : s.ps.el = .el0)
    (ho : s.gateOpen a = true) (h9 : s.t9Trap a = false) (hf : s.fineTrap a = false) (d acc : Decision32) :
    pmu32Chain a.present a.gate a.t9 a.fgt (some d) a.pmcr acc s = d := by
  obtain ⟨h0, hg⟩ := gateOpen_el0 ho he
  simp only [State.fineTrap, he] at hf
  simp only [State.t9Trap, he] at h9
  have h64 : (a.t9 && s.a64EL2 && !(s.e2h && s.tge) && s.hstrT 9) = false := by grind
  have h32 : (a.t9 && s.a32EL2 && s.hstrT 9) = false := by grind
  simp only [pmu32Chain, hp, he, if_neg h0, hg, h64, h32, hf, Option.getD_some, Bool.not_true, Bool.and_false,
    Bool.false_eq_true, if_false]

end Chain

/-! ### The range check of R167 -/

section Range

variable {s : State}

/-- A counter register exists with the Performance Monitors. -/
theorem pmuAccesses32_counter_present (s : State) (c : Cond) (t t2 : RReg) (n : BitVec 5) :
    ∀ a ∈ s.pmuAccesses32 c t t2 n, ∀ k, a.counter = some k → a.present = s.cfg.havePMUv3 := by
  simp [State.pmuAccesses32]

/-- The range check stops an access to a counter that is not implemented, and to one that HPMN reserves. -/
theorem counterChain_checked {gate : UserGate} {fgt : Bool × Nat} {n : Nat} {indirect type : Bool} {d : Decision}
    (hp : s.cfg.havePMUv3 = true)
    (hg : (s.ps.el = .el1 ∧ s.fgt1 fgt.1 fgt.2 = false) ∨
      (s.ps.el = .el0 ∧ s.gateClosed gate = false ∧ s.fgt0 fgt.1 fgt.2 = false))
    (hd : s.hpmnCheck n = some d) (h31 : type = true → indirect = true → n ≠ 31)
    (h0 : gate ≠ .undefinedAtEl0 := by decide) : counterChain gate fgt n indirect type s = d := by
  obtain ⟨acc, hacc⟩ := counterChain_eq gate fgt n indirect type s
  rw [hacc, checkedCounter_of_ne h31, Option.bind_some, hd]
  refine pmuChain_range_stops hp ?_ _ _
  rcases hg with ⟨he, hf⟩ | ⟨he, hc, hf⟩
  · exact .inl ⟨he, hf⟩
  · exact .inr ⟨he, h0, hc, hf⟩

end Range

/-- Settles O44: the range check of the counter that is named decides the chain before TPM does. -/
theorem hpmnRangeCheck : Obligations.HpmnRangeCheck := by
  unfold Obligations.HpmnRangeCheck
  intro s t n hp hf h2
  have absent {k : Nat} (hk : s.pmcrN ≤ k) := hpmnCheck_absent hf h2 hk
  have reserved {k : Nat} (hl : s.hpmnLegal = true) (hk : s.hpmn ≤ k) (hN : k < s.pmcrN) :=
    hpmnCheck_reserved hf h2 hl hk hN
  refine ⟨fun hg h31 => ⟨fun hk => ?_, fun hl hk hN => ?_⟩, fun hg h31 => ⟨fun hk => ?_, fun hl hk hN => ?_⟩,
    fun hg => ⟨fun hk => ?_, fun hl hk hN => ?_⟩, fun hg => ⟨fun hk => ?_, fun hl hk hN => ?_⟩,
    fun hg => ⟨fun hk => ?_, fun hl hk hN => ?_⟩, fun hg => ⟨fun hk => ?_, fun hl hk hN => ?_⟩,
    fun hg => ⟨fun hk => ?_, fun hl hk hN => ?_⟩, fun hg => ⟨fun hk => ?_, fun hl hk hN => ?_⟩,
    fun c r r2 hc he a ha k hak ho h9 hfine => ?_⟩
  -- PMXEVTYPER_EL0 and PMXEVCNTR_EL0
  · exact runMrs_undefined (counterChain_checked hp hg (absent hk) fun _ _ => h31)
  · exact runMrs_printed (counterChain_checked hp hg (reserved hl hk hN) fun _ _ => h31) rfl
  · exact runMsr_undefined (counterChain_checked hp hg (absent hk) fun _ _ => h31)
  · exact runMsr_printed (counterChain_checked hp hg (reserved hl hk hN) fun _ _ => h31) rfl
  · exact runMrs_undefined (counterChain_checked hp hg (absent hk) nofun)
  · exact runMrs_printed (counterChain_checked hp hg (reserved hl hk hN) nofun) rfl
  · exact runMsr_undefined (counterChain_checked hp hg (absent hk) nofun)
  · exact runMsr_printed (counterChain_checked hp hg (reserved hl hk hN) nofun) rfl
  -- PMEVCNTR<n>_EL0 and PMEVTYPER<n>_EL0
  · exact runMrs_undefined (counterChain_checked hp hg (absent hk) nofun)
  · exact exec_counterRead_trap t (counterChain_checked hp hg (reserved hl hk hN) nofun)
  · exact runMsr_undefined (counterChain_checked hp hg (absent hk) nofun)
  · exact exec_counterWrite_trap t (counterChain_checked hp hg (reserved hl hk hN) nofun)
  · exact runMrs_undefined (counterChain_checked hp hg (absent hk) nofun)
  · exact exec_typeRead_trap t (counterChain_checked hp hg (reserved hl hk hN) nofun)
  · exact runMsr_undefined (counterChain_checked hp hg (absent hk) nofun)
  · exact exec_typeWrite_trap t (counterChain_checked hp hg (reserved hl hk hN) nofun)
  -- the AArch32 accesses at EL0
  · obtain ⟨acc, hobeys⟩ := pmuAccesses32_obey_checked hc r r2 n a ha
    have hpres : a.present = true := (pmuAccesses32_counter_present s c r r2 n a ha k hak).trans hp
    rw [hak, Option.bind_some] at hobeys
    refine ⟨fun hk => ?_, fun hl hk hN => ?_⟩
    · rw [absent hk] at hobeys
      exact hobeys.undefined (pmu32Chain_range_stops hpres he ho h9 hfine ..)
    · rw [reserved hl hk hN] at hobeys
      refine hobeys.trap ((pmu32Chain_range_stops hpres he ho h9 hfine ..).trans ?_)
      simp [Decision.to32, (a64EL2_spec h2).2]

/-! ### TRFCR (43_spe_trace.md R209) -/

section Trfcr

variable {s : State} (hp : s.cfg.haveTraceFilt = true)
include hp

theorem trfcr32Chain_hstr (he : s.ps.el = .el1) (h : (s.el2Enabled && s.hstrT 1) = true) :
    (trfcr32Chain s).ToEl2 s := by
  obtain ⟨h2, h1⟩ := Bool.and_eq_true_iff.mp h
  unfold trfcr32Chain
  rcases el2Enabled_cases h2 with ⟨h64, -⟩ | ⟨h64, h32, ha⟩
  · exact .inl (by simp [hp, he, h64, h1])
  · exact .inr ⟨by simp [hp, he, h64, h32, h1], ha⟩

/-- TTRF traps to EL2 in Non-secure state; HSTR.T1, which comes before, does the same. -/
theorem trfcr32Chain_ttrf (he : s.ps.el = .el1) (h2 : s.el2Enabled = true) (hns : s.nonSecure = true)
    (ht : s.ttrf = true) : (trfcr32Chain s).ToEl2 s := by
  unfold trfcr32Chain
  rcases el2Enabled_cases h2 with ⟨h64, h32⟩ | ⟨h64, h32, ha⟩
  · exact .inl (by simp [hp, he, h64, h32, hns, ht])
  · exact .inr ⟨by simp [hp, he, h64, h32, hns, ht], ha⟩

theorem trfcr32Chain_secure
    (he : s.ps.el = .el3 ∨ (s.ps.el = .el1 ∧ (s.el2Enabled && s.hstrT 1) = false)) (hns : s.nonSecure = false) :
    trfcr32Chain s = .undefined := by
  unfold trfcr32Chain
  rcases he with he | ⟨he, h⟩
  · simp [hp, he, hns]
  · rw [el2Enabled_eq, Bool.and_or_distrib_right, Bool.or_eq_false_iff] at h
    simp only [hp, he, h, hns, Bool.not_true, Bool.false_eq_true, if_false, Bool.not_false, if_true]

/-- The EL3 controls of TRFCR, which come last. -/
theorem trfcr32Chain_quiet (hq : s.ps.el = .el2 ∨
      (s.ps.el = .el1 ∧ (s.el2Enabled && (s.hstrT 1 || s.ttrf)) = false ∧ s.nonSecure = true)) :
    trfcr32Chain s = if s.a64EL3 && s.ttrf3 then .trap .el3
      else if s.a32EL3 && s.sdcrTtrf then .monitorTrap else .access 0 := by
  unfold trfcr32Chain
  rcases hq with he | ⟨he, h, hns⟩
  · simp only [hp, he, Bool.not_true, Bool.false_eq_true, if_false]
  · rcases Bool.and_eq_false_iff.mp h with h2 | h
    · simp only [hp, he, el2Enabled_false h2, hns, Bool.not_true, Bool.false_and, Bool.false_eq_true, if_false]
    · obtain ⟨h1, ht⟩ := Bool.or_eq_false_iff.mp h
      simp only [hp, he, h1, ht, hns, Bool.not_true, Bool.and_false, Bool.false_eq_true, if_false]

end Trfcr

theorem trfcr32Chain_absent {s : State} (hp : s.cfg.haveTraceFilt = false) : trfcr32Chain s = .undefined := by
  simp only [trfcr32Chain, hp, Bool.not_false, if_true]

/-- Both accesses to TRFCR obey its chain. -/
theorem trfcr32_obey {s : State} {c : Cond} (hc : s.condPassed c = true) (t : RReg) :
    ∀ i ∈ [Instr.mrcTrfcr c t, .mcrTrfcr c t], s.Obeys32 i (trfcr32Chain s) := by
  simp only [List.forall_mem_cons]
  exact ⟨obeys_run32 hc, obeys_run32 hc, List.forall_mem_nil _⟩

/-! ### The traps -/

/-- Settles O43: TPM, TPMCR, HSTR.T9 and the fine-grained bits decide the chain of R168, and HSTR.T1, TTRF and the EL3
controls that of TRFCR. -/
theorem pmuAndTraceTraps32 : Obligations.PmuAndTraceTraps32 := by
  unfold Obligations.PmuAndTraceTraps32
  intro s c t t2 n
  refine ⟨fun he h2 hc => ⟨fun hp ht => ?_, fun hp ht h1 => ?_, fun hp ht h4 => ?_, fun hp ht => ?_,
    fun hp hns ht => ?_⟩, fun hc => ⟨fun a ha hp ho => ⟨fun hf => ?_, fun hq hne h3 ht => ?_⟩, fun a ha hp => ?_,
      fun i hi => ⟨fun hp => ?_, fun hp => ⟨fun he h => ?_, fun he hns => ?_, fun hq => ⟨fun h3 ht => ?_,
        fun h3 ht => ?_⟩⟩⟩⟩⟩
  -- TPM, TPMCR and TTRF at EL1
  · have plain {gate t9 fgt pmcr ec iss acc zero} :
        run32 c ec iss (pmu32Chain s.cfg.havePMUv3 gate t9 fgt none pmcr (.access 0) s) acc zero s =
          .next (s.takeTrap .el2 ec iss) :=
      run32_el2 hc (pmu32Chain_tpm hp he h2 (by rw [ht]; rfl) ..)
    have counter {gate t9 fgt k indirect type ec iss acc zero} :
        run32 c ec iss (counter32Chain gate t9 fgt k indirect type s) acc zero s = .next (s.takeTrap .el2 ec iss) :=
      run32_el2 hc (counter32Chain_tpm hp he h2 ht ..)
    exact ⟨plain, plain, plain, plain, plain, plain, plain, plain, plain, plain, plain, plain, plain, plain, plain,
      counter, counter, counter, counter, plain, plain, plain, plain, plain, plain, plain, plain, plain, plain,
      counter, counter, counter, counter, plain, plain⟩
  · have hpres : (s.cfg.havePMUv3 && s.cfg.havePMUv3p1) = true := by rw [hp, h1]; rfl
    and_intros <;> exact run32_el2 hc (pmu32Chain_tpm hpres he h2 (by rw [ht]; rfl) ..)
  · exact run32_el2 hc (pmu32Chain_tpm (by rw [hp, h4]; rfl) he h2 (by rw [ht]; rfl) ..)
  · and_intros <;> exact run32_el2 hc (pmu32Chain_tpm hp he h2 (by rw [ht]; exact Bool.or_true _) ..)
  · and_intros <;> exact run32_el2 hc (trfcr32Chain_ttrf hp he h2 hns ht)
  -- every access of the list
  · obtain ⟨acc, hobeys⟩ := pmuAccesses32_obey_checked hc t t2 n a ha
    exact hobeys.el2 (pmu32Chain_el2 hp ho hf counterFree_check32 _)
  · obtain ⟨acc, hobeys⟩ := pmuAccesses32_obey_checked hc t t2 n a ha
    exact hobeys.trap (pmu32Chain_el3 hp ho hq hne h3 ht counterFree_check32 _)
  · obtain ⟨acc, hobeys⟩ := pmuAccesses32_obey_checked hc t t2 n a ha
    rw [hp] at hobeys
    exact hobeys.undefined (pmu32Chain_absent ..)
  -- TRFCR
  · exact (trfcr32_obey hc t i hi).undefined (trfcr32Chain_absent hp)
  · exact (trfcr32_obey hc t i hi).el2 (trfcr32Chain_hstr hp he h)
  · exact (trfcr32_obey hc t i hi).undefined (trfcr32Chain_secure hp he hns)
  · refine (trfcr32_obey hc t i hi).trap ((trfcr32Chain_quiet hp hq).trans ?_)
    rw [h3, ht, Bool.and_self, if_pos rfl]
  · refine (trfcr32_obey hc t i hi).monitor ((trfcr32Chain_quiet hp hq).trans ?_)
    rw [a64EL3_of_a32EL3 h3, h3, ht, Bool.false_and, if_neg Bool.false_ne_true, Bool.and_self, if_pos rfl]

end Sys2Proof.Machine
end

section
/-! SUPPORT. An access to an event counter that is not accessible, where the range check is not in force: the behaviours
that R167 permits (42_pmu_controls.md R167, R171, R274). -/

namespace Sys2Proof.Machine

/-! ### The choice -/

section Choice

variable {s : State} {n : Nat} {indirect type : Bool}

/-- Where HPMN is legal or irrelevant, the counters below the count of R171 are open to the level. -/
theorem counterOpen_of_accessible (hh : s.hpmnPlain = true) {k m : Nat} (hk : k < s.accessibleCount .accessLimit m) :
    s.counterOpen k = true := by
  unfold State.accessibleCount State.atGuestLevel at hk
  have hpart := partHpmn_plain hh .accessLimit m
  unfold State.hpmnPlain State.hpmnLegal at hh
  unfold State.counterOpen State.hpmnLegal
  have := @haveEL2_of_enabled s
  cases he : s.ps.el <;> grind

/-- The permitted behaviours one by one; an access through PMSELR_EL0 reaches an open counter or PMCCFILTR_EL0. -/
theorem mem_counterChoices (hh : s.hpmnPlain = true) {d : Decision} (hd : d ∈ s.counterChoices n indirect type) :
    d = .undefined ∨ d = .raz ∨ d = .nop ∨
    (s.el2Enabled = true ∧ (s.ps.el = .el0 ∨ s.ps.el = .el1) ∧ n < s.pmcrN ∧ d = .trap .el2) ∨
    (indirect = true ∧ ∃ k, s.counterOpen k = true ∧ d = .access k) ∨
    (indirect = true ∧ type = true ∧ d = .access 31) := by
  simp only [State.counterChoices, List.mem_append, List.mem_cons, List.mem_ite_nil_right, List.not_mem_nil, or_false,
    Bool.and_eq_true, decide_eq_true_eq, State.atGuestLevel, Bool.or_eq_true] at hd
  rcases hd with ((hd | ⟨⟨⟨h2, hg⟩, hN⟩, hd⟩) | ⟨⟨hi, h0⟩, hd⟩) | ⟨⟨hi, ht⟩, hd⟩
  · rcases hd with hd | hd | hd
    · exact .inl hd
    · exact .inr (.inl hd)
    · exact .inr (.inr (.inl hd))
  · exact .inr (.inr (.inr (.inl ⟨h2, hg, hN, hd⟩)))
  · refine .inr (.inr (.inr (.inr (.inl ⟨hi, _, counterOpen_of_accessible (m := n) hh ?_, hd⟩))))
    rw [State.freeBelow, if_neg h0]
    exact Nat.mod_lt _ (Nat.pos_of_ne_zero h0)
  · exact .inr (.inr (.inr (.inr (.inr ⟨hi, ht, hd⟩))))

/-- Where the range check has not passed, what the access does is one of them. -/
theorem counterAccess_mem (ha : s.accessible .accessLimit n = false) :
    s.counterAccess n indirect type false ∈ s.counterChoices n indirect type := by
  unfold State.counterAccess
  rw [ha, Bool.or_false, if_neg Bool.false_ne_true]
  simp only
  generalize hidx : s.freeBelow .counterChoice (s.counterChoices n indirect type).length = idx
  by_cases hlt : idx < (s.counterChoices n indirect type).length
  · rw [List.getD_eq_getElem _ _ hlt]
    exact List.getElem_mem hlt
  · rw [List.getD_eq_default _ _ (Nat.not_lt.mp hlt)]
    simp [State.counterChoices]

/-- Where the range check is not in force (42_pmu_controls.md R167), it does not stop the access. -/
theorem hpmnCheck_off (h : (s.cfg.haveFGT && s.a64EL2 && s.atGuestLevel) = false)
    (hg : s.ps.el = .el0 ∨ s.ps.el = .el1) : s.hpmnCheck n = none := by
  have hguest : s.atGuestLevel = true := by
    unfold State.atGuestLevel
    rcases hg with he | he <;> simp [he]
  rw [hguest, Bool.and_true] at h
  simp [State.hpmnCheck, h]

/-- The access is not the one to PMCCFILTR_EL0 through PMSELR_EL0 (42_pmu_controls.md R160). -/
theorem not_filter (h31 : type = true → indirect = true → n ≠ 31) : (type && indirect && n == 31) = false := by
  cases type
  · rfl
  cases indirect
  · rfl
  exact beq_false_of_ne (h31 rfl rfl)

theorem counterChain_choice {gate : UserGate} {fgt : Bool × Nat}
    (hr : (s.cfg.haveFGT && s.a64EL2 && s.atGuestLevel) = false)
    (ho : s.pmuOpen s.cfg.havePMUv3 gate (some fgt) false = true) (h31 : type = true → indirect = true → n ≠ 31)
    (ha : s.accessible .accessLimit n = false) :
    counterChain gate fgt n indirect type s ∈ s.counterChoices n indirect type := by
  unfold counterChain
  rw [not_filter h31, if_neg Bool.false_ne_true, pmuChain_range _ (hpmnCheck_off hr), pmuChain_open ho,
    State.rangeCheckOn, hr]
  exact counterAccess_mem ha

/-- In AArch32 state the range check is in force at EL0 only (42_pmu_controls.md R168). -/
theorem pmu32Chain_range_el0 {present pmcr t9 : Bool} {gate : UserGate} {fgt : Option (Bool × Nat)}
    {range : Option Decision32} (acc : Decision32) (hr : s.ps.el = .el0 → range = none) :
    pmu32Chain present gate t9 fgt range pmcr acc s = pmu32Chain present gate t9 fgt none pmcr acc s := by
  unfold pmu32Chain
  cases he : s.ps.el with
  | el0 => rw [hr he]
  | _ => rfl

theorem counter32Chain_choice {gate : UserGate} {t9 : Bool} {fgt : Bool × Nat}
    (hr : (s.cfg.haveFGT && s.a64EL2 && decide (s.ps.el = .el0)) = false)
    (ho : s.pmu32Open s.cfg.havePMUv3 gate t9 (some fgt) false = true)
    (h31 : type = true → indirect = true → n ≠ 31) (ha : s.accessible .accessLimit n = false) :
    ∃ d ∈ s.counterChoices n indirect type, counter32Chain gate t9 fgt n indirect type s = d.to32 s := by
  have hchecked : (s.rangeCheckOn && decide (s.ps.el = .el0)) = false := by
    unfold State.rangeCheckOn
    grind
  have hcheck (he : s.ps.el = .el0) : (s.hpmnCheck n).map (Decision.to32 s) = none := by
    rw [decide_eq_true he, Bool.and_true] at hr
    simp [State.hpmnCheck, hr]
  refine ⟨_, counterAccess_mem ha, ?_⟩
  simp only [counter32Chain, not_filter h31, Bool.false_eq_true, if_false, hchecked]
  rw [pmu32Chain_range_el0 _ hcheck, pmu32Chain_open ho]

end Choice

/-! ### An access under the choice -/

/-- The instruction does what a decision about a counter says: `zero` is the state after a transfer of zero, `reach k`
the one after an access to counter `k`. -/
structure State.Follows (s : State) (i : Instr) (zero : State) (reach : Nat → State) (d : Decision) : Prop where
  undefined : d = .undefined → exec i s = .next s.takeUndefined
  raz : d = .raz → exec i s = .next zero
  nop : d = .nop → exec i s = .next s.advance
  trap : d = .trap .el2 → exec i s = .next (i.trapped s .el2)
  access : ∀ k, d = .access k → exec i s = .next (reach k)

section Follows

variable {s zero : State} {i : Instr} {reach : Nat → State} {d : Decision}

theorem follows_mrs {e : SysEnc} {t : XReg} {read : Nat → Word} (hx : exec i s = runMrs e t d read s := by rfl)
    (ht : i.trapped s .el2 = s.takeTrap .el2 0x18 (iss18 e t true) := by rfl) :
    s.Follows i ((s.setX t 0).advance) (fun k => (s.setX t (read k)).advance) d where
  undefined h := hx.trans (runMrs_undefined h)
  raz h := by rw [hx, h]; rfl
  nop h := by rw [hx, h]; rfl
  trap h := by rw [hx, ht]; exact runMrs_trap h
  access _ h := hx.trans (runMrs_access h)

theorem follows_msr {e : SysEnc} {t : XReg} {write : Nat → Word → State}
    (hx : exec i s = runMsr e t d write s := by rfl)
    (ht : i.trapped s .el2 = s.takeTrap .el2 0x18 (iss18 e t false) := by rfl) :
    s.Follows i s.advance (fun k => (write k (s.getX t)).advance) d where
  undefined h := hx.trans (runMsr_undefined h)
  raz h := by rw [hx, h]; rfl
  nop h := by rw [hx, h]; rfl
  trap h := by rw [hx, ht]; exact runMsr_trap h
  access _ h := hx.trans (runMsr_access h)

theorem follows_run32 {c : Cond} {ec : BitVec 6} {iss : BitVec 25} {d32 : Decision32} {acc : Nat → State}
    (hc : s.condPassed c = true) (hd : d32 = d.to32 s) (hx : exec i s = run32 c ec iss d32 acc zero s := by rfl)
    (ht : i.trapped s .el2 = s.takeTrap .el2 ec iss := by rfl) :
    s.Follows i zero.advance (fun k => (acc k).advance) d where
  undefined h := hx.trans (run32_undefined hc (by rw [hd, h]; rfl))
  raz h := by rw [hx, hd, h]; simp [run32, next32, hc, Decision.to32]
  nop h := by rw [hx, hd, h]; simp [run32, next32, hc, Decision.to32]
  trap h := by
    rw [hx, ht]
    refine run32_el2 hc ?_
    rw [hd, h, Decision.to32]
    cases ha : s.el2A32
    · exact .inl rfl
    · exact .inr ⟨rfl, rfl⟩
  access _ h := hx.trans (run32_access hc (by rw [hd, h]; rfl))

/-- So it shows one of the behaviours that R167 permits. -/
theorem State.Follows.permitted {n : Nat} {indirect type : Bool} (hf : s.Follows i zero reach d)
    (hh : s.hpmnPlain = true) (hd : d ∈ s.counterChoices n indirect type) :
    s.permitted i n zero reach indirect type := by
  rcases mem_counterChoices hh hd with h | h | h | ⟨h2, hg, hN, h⟩ | ⟨hi, k, hk, h⟩ | ⟨hi, ht, h⟩
  · exact .inl (hf.undefined h)
  · exact .inr (.inl (hf.raz h))
  · exact .inr (.inr (.inl (hf.nop h)))
  · exact .inr (.inr (.inr (.inl ⟨h2, hg, hN, hf.trap h⟩)))
  · exact .inr (.inr (.inr (.inr (.inl ⟨hi, k, hk, hf.access k h⟩))))
  · exact .inr (.inr (.inr (.inr (.inr ⟨hi, ht, hf.access 31 h⟩))))

/-- The same for an AArch32 access, whose decision is that of the choice in its own terms. -/
theorem permitted_run32 {c : Cond} {ec : BitVec 6} {iss : BitVec 25} {d32 : Decision32} {acc : Nat → State} {n : Nat}
    {indirect type : Bool} (hc : s.condPassed c = true) (hh : s.hpmnPlain = true)
    (hd : ∃ d ∈ s.counterChoices n indirect type, d32 = d.to32 s)
    (hx : exec i s = run32 c ec iss d32 acc zero s := by rfl)
    (ht : i.trapped s .el2 = s.takeTrap .el2 ec iss := by rfl) :
    s.permitted i n zero.advance (fun k => (acc k).advance) indirect type := by
  obtain ⟨d, hmem, hd⟩ := hd
  exact (follows_run32 hc hd hx ht).permitted hh hmem

end Follows

/-- Settles O45: the chain of each access decides for one of the permitted behaviours, and the form does it. -/
theorem inaccessibleCounterChoices : Obligations.InaccessibleCounterChoices := by
  unfold Obligations.InaccessibleCounterChoices
  intro s c t r n hh
  refine ⟨fun hr => ?_, fun hr hc => ?_⟩
  · exact ⟨fun ho h31 ha => State.Follows.permitted follows_mrs hh (counterChain_choice hr ho (fun _ _ => h31) ha),
      fun ho h31 ha => State.Follows.permitted follows_msr hh (counterChain_choice hr ho (fun _ _ => h31) ha),
      fun ho ha => State.Follows.permitted follows_mrs hh (counterChain_choice hr ho nofun ha),
      fun ho ha => State.Follows.permitted follows_msr hh (counterChain_choice hr ho nofun ha),
      fun ho ha => State.Follows.permitted follows_mrs hh (counterChain_choice hr ho nofun ha),
      fun ho ha => State.Follows.permitted follows_msr hh (counterChain_choice hr ho nofun ha),
      fun ho ha => State.Follows.permitted follows_mrs hh (counterChain_choice hr ho nofun ha),
      fun ho ha => (follows_msr (write := fun k v => { s with pmu := { s.pmu with evtyper := vset s.pmu.evtyper k v } })
        ).permitted hh (counterChain_choice hr ho nofun ha)⟩
  · exact ⟨fun ho h31 ha => permitted_run32 hc hh (counter32Chain_choice hr ho (fun _ _ => h31) ha),
      fun ho h31 ha => permitted_run32 hc hh (counter32Chain_choice hr ho (fun _ _ => h31) ha),
      fun ho ha => permitted_run32 hc hh (counter32Chain_choice hr ho nofun ha),
      fun ho ha => permitted_run32 hc hh (counter32Chain_choice hr ho nofun ha),
      fun ho ha => permitted_run32 hc hh (counter32Chain_choice hr ho nofun ha),
      fun ho ha => permitted_run32 hc hh (counter32Chain_choice hr ho nofun ha),
      fun ho ha => permitted_run32 hc hh (counter32Chain_choice hr ho nofun ha),
      fun ho ha => permitted_run32 hc hh (counter32Chain_choice hr ho nofun ha)⟩

end Sys2Proof.Machine
end

section
/-! SUPPORT. HPMN: how many counters a level may access, which bits it sees, and what a write of PMCR_EL0 resets
(42_pmu_controls.md R171 to R173, R179). -/

namespace Sys2Proof.Machine

/-! ### The number of accessible counters (42_pmu_controls.md R171, R172) -/

section Count

variable {s : State}

theorem pmcrN_le (s : State) : s.pmcrN ≤ 31 := Nat.le_of_lt_succ s.cfg.pmcrN.isLt

theorem hpmnPlain_of_legal (h : s.hpmnLegal = true) : s.hpmnPlain = true := by
  simp [State.hpmnPlain, h]

theorem hpmn_le_of_legal (h : s.hpmnLegal = true) : s.hpmn ≤ s.pmcrN := by
  simp only [State.hpmnLegal, Bool.and_eq_true, decide_eq_true_eq] at h
  exact h.2

theorem atGuestLevel_iff : s.atGuestLevel = true ↔ s.ps.el = .el0 ∨ s.ps.el = .el1 := by
  simp [State.atGuestLevel]

theorem partHpmn_le (s : State) (use : HpmnUse) (n : Nat) : s.partHpmn use n ≤ s.pmcrN := by
  have hfree := Nat.mod_lt (s.free (.hpmn use n)).toNat (Nat.succ_pos s.pmcrN)
  unfold State.partHpmn State.freeBelow hpmnIllegal
  grind

theorem accessibleCount_le (s : State) (use : HpmnUse) (n : Nat) : s.accessibleCount use n ≤ s.pmcrN := by
  unfold State.accessibleCount
  split
  · exact partHpmn_le s use n
  · exact Nat.le_refl _

/-- Above EL1, and while EL2 is not enabled, every counter is accessible. -/
theorem accessibleCount_all (h : s.el2Enabled = true → ¬(s.ps.el = .el0 ∨ s.ps.el = .el1)) (use : HpmnUse) (n : Nat) :
    s.accessibleCount use n = s.pmcrN := by
  refine if_neg fun hc => ?_
  obtain ⟨h2, hg⟩ := Bool.and_eq_true_iff.mp hc
  exact h h2 (atGuestLevel_iff.mp hg)

/-- At EL1 and EL0 with EL2 enabled, those below HPMN; none where there are no event counters. -/
theorem accessibleCount_guest (hh : s.hpmnPlain = true) (h2 : s.el2Enabled = true)
    (hg : s.ps.el = .el0 ∨ s.ps.el = .el1) (use : HpmnUse) (n : Nat) :
    s.accessibleCount use n = if s.pmcrN = 0 then 0 else s.hpmn := by
  unfold State.accessibleCount
  rw [h2, atGuestLevel_iff.mpr hg, Bool.and_self, if_pos rfl, partHpmn_plain hh, haveEL2_of_enabled h2]
  rfl

end Count

/-! ### The bit-mask registers (42_pmu_controls.md R173) -/

/-- The mask has the bits of the accessible counters and that of the cycle counter. -/
theorem visibleMask_getLsbD (s : State) (j : Nat) :
    s.visibleMask.getLsbD j = true ↔ j < s.accessibleCount .bitMask 0 ∨ j = 31 := by
  have hN : s.accessibleCount .bitMask 0 ≤ 31 := (accessibleCount_le ..).trans (pmcrN_le s)
  unfold State.visibleMask
  generalize s.accessibleCount .bitMask 0 = N at hN
  have hlow : (1#64 <<< N - 1).getLsbD j = decide (j < N) := by
    have hone : (1#64 <<< N).toNat = 2 ^ N := by
      rw [← BitVec.twoPow_eq, BitVec.toNat_twoPow_of_lt (by omega)]
    have hle : 1#64 ≤ 1#64 <<< N := BitVec.le_def.mpr (hone ▸ Nat.two_pow_pos N)
    have hnat : (1#64 <<< N - 1#64).toNat = 2 ^ N - 1 := by
      rw [BitVec.toNat_sub_of_le hle, hone]
      rfl
    rw [← Nat.testBit_two_pow_sub_one, ← hnat]
    rfl
  have h31 : (1#64 <<< 31).getLsbD j = decide (j = 31) := by
    rw [← BitVec.twoPow_eq, BitVec.getLsbD_twoPow]
    exact decide_eq_decide.mpr eq_comm
  rw [BitVec.getLsbD_or, hlow, h31, Bool.or_eq_true, decide_eq_true_eq, decide_eq_true_eq, or_comm]

/-- Xt after a read that completes. -/
theorem State.getX_setX_advance (s : State) {t : XReg} (ht : t ≠ 31) (v : Word) :
    ((s.setX t v).advance).getX t = v :=
  (s.getX_setX t t v).trans (if_pos ⟨rfl, ht⟩)

/-- Settles O56: one count serves the mask, the read and the clear. -/
theorem visibleCounterBits : Obligations.VisibleCounterBits := by
  unfold Obligations.VisibleCounterBits
  intro s
  have hmask := visibleMask_getLsbD s
  refine ⟨s.accessibleCount .bitMask 0, accessibleCount_le .., fun h => ?_, fun h2 hg hl => ?_, hmask,
    fun t j ht ho => ?_, fun t j ho => ?_⟩
  · refine accessibleCount_all (fun h2 hg => ?_) ..
    rcases h with h | h | h <;> simp_all
  · rw [accessibleCount_guest (hpmnPlain_of_legal hl) h2 hg]
    have := hpmn_le_of_legal hl
    split <;> omega
  · obtain ⟨-, -, h, -⟩ := pmuRegistersComplete s t
    refine ⟨_, (h ho).1, ?_⟩
    rw [s.getX_setX_advance ht, BitVec.getLsbD_and, Bool.and_eq_true, hmask]
  · obtain ⟨-, -, -, h, -⟩ := pmuRegistersComplete s t
    refine ⟨_, (h ho).2, ?_⟩
    change (s.maskClear s.pmu.pmcnten (s.getX t)).getLsbD j = true ↔ _
    have hj : s.pmu.pmcnten.getLsbD j = true → j < 64 := BitVec.lt_of_getLsbD
    rw [← hmask]
    simp only [State.maskClear, BitVec.getLsbD_and, BitVec.getLsbD_not, Bool.and_eq_true, Bool.not_eq_true',
      decide_eq_true_eq, Bool.and_eq_false_iff]
    grind

/-! ### PMCR_EL0 (42_pmu_controls.md R179) -/

/-- Exactly the counters selected are zero afterwards. -/
theorem vget_resetSelected (v : Vector Word 31) (f : Nat → Bool) (k : Nat) {n : Nat} (hn : n < 31) :
    vget (resetSelected v f k) n = if n < k ∧ f n = true then 0 else vget v n := by
  induction k with
  | zero => simp [resetSelected]
  | succ k ih =>
    have hstep : resetSelected v f (k + 1) =
        if f k then vset (resetSelected v f k) k 0 else resetSelected v f k := rfl
    rw [hstep]
    split
    · rw [vget_vset, ih]
      grind
    · rw [ih]
      grind

section Pmcr

variable (s : State)

/-- The count as a field of five bits, the width of PMCR_EL0.N. -/
theorem pmcrRead_eq : s.pmcrRead = (s.pmu.pmcr &&& ~~~0xF800#64) |||
    ((BitVec.ofNat 5 (s.accessibleCount .readN 0)).setWidth 64 <<< 11) := by
  have hN : s.accessibleCount .readN 0 ≤ 31 := (accessibleCount_le ..).trans (pmcrN_le s)
  rw [State.pmcrRead, BitVec.setWidth_ofNat_of_le_of_lt (by decide) (by omega)]

theorem pmcrRead_N : (s.pmcrRead.extractLsb' 11 5).toNat = s.accessibleCount .readN 0 := by
  have hN : s.accessibleCount .readN 0 ≤ 31 := (accessibleCount_le ..).trans (pmcrN_le s)
  have hfield : ∀ n : BitVec 5, (n.setWidth 64 <<< 11).extractLsb' 11 5 = n := by decide
  have hmask : (~~~0xF800#64).extractLsb' 11 5 = 0#5 := by decide
  rw [pmcrRead_eq, BitVec.extractLsb'_or, BitVec.extractLsb'_and, hmask, hfield, BitVec.and_zero, BitVec.zero_or,
    BitVec.toNat_ofNat, Nat.mod_eq_of_lt (by omega)]

theorem pmcrRead_rest : s.pmcrRead &&& ~~~0xF800#64 = s.pmu.pmcr &&& ~~~0xF800#64 := by
  have hfield : ∀ n : BitVec 5, (n.setWidth 64 <<< 11) &&& ~~~0xF800#64 = 0 := by decide
  rw [pmcrRead_eq, BitVec.and_or_distrib_right, hfield, BitVec.and_assoc, BitVec.and_self]
  exact BitVec.or_zero

end Pmcr

/-- N is read-only, and E is stored. -/
theorem pmcrStored_fields (c : Config) :
    (pmcrStored c).extractLsb' 11 5 = 0#5 ∧ (pmcrStored c).getLsbD 0 = true := by
  unfold pmcrStored
  cases c.havePMUv3p5 <;> cases c.haveEL3 || (c.havePMUv3p1 && c.haveEL2) <;> exact ⟨rfl, rfl⟩

theorem pmcrMerge_N (c : Config) (v : Word) : (pmcrMerge c v).extractLsb' 11 5 = c.pmcrN := by
  have hfield : ∀ n : BitVec 5, (n.setWidth 64 <<< 11).extractLsb' 11 5 = n := by decide
  rw [pmcrMerge, BitVec.extractLsb'_or, BitVec.extractLsb'_and, (pmcrStored_fields c).1, hfield,
    BitVec.and_zero, BitVec.zero_or]

theorem pmcrMerge_E (c : Config) (v : Word) : (pmcrMerge c v).getLsbD 0 = v.getLsbD 0 := by
  have hfield : ∀ n : BitVec 5, (n.setWidth 64 <<< 11).getLsbD 0 = false := by decide
  rw [pmcrMerge, BitVec.getLsbD_or, BitVec.getLsbD_and, (pmcrStored_fields c).2, hfield, Bool.and_true, Bool.or_false]

/-- The counters that a write of PMCR_EL0.P resets (42_pmu_controls.md R171, R179). -/
theorem accessible_iff {s : State} (hh : s.hpmnPlain = true) (use : HpmnUse) {n : Nat} :
    n < s.pmcrN ∧ s.accessible use n = true ↔
      n < s.pmcrN ∧ (s.el2Enabled = true → s.ps.el = .el0 ∨ s.ps.el = .el1 → n < s.hpmn) := by
  refine and_congr_right fun hn => ?_
  rw [State.accessible, decide_eq_true_eq]
  by_cases h2 : s.el2Enabled = true ∧ (s.ps.el = .el0 ∨ s.ps.el = .el1)
  · rw [accessibleCount_guest hh h2.1 h2.2, if_neg (by omega)]
    exact ⟨fun h _ _ => h, fun h => h h2.1 h2.2⟩
  · rw [accessibleCount_all fun h hg => h2 ⟨h, hg⟩]
    exact ⟨fun _ h hg => absurd ⟨h, hg⟩ h2, fun _ => hn⟩

/-- Settles O59: the fields of PMCR_EL0 as it is read, and of the state after a write. -/
theorem pmcrFieldsAndHpmn : Obligations.PmcrFieldsAndHpmn := by
  unfold Obligations.PmcrFieldsAndHpmn
  intro s t hh
  obtain ⟨hmrs, hmsr, -⟩ := pmuRegistersComplete s t
  refine ⟨fun ht ho => ⟨_, hmrs ho, ?_⟩, fun ho => ⟨_, hmsr ho, rfl, pmcrMerge_N .., pmcrMerge_E .., fun n hn => ?_, rfl⟩⟩
  · rw [s.getX_setX_advance ht, pmcrRead_N]
    refine ⟨?_, pmcrRead_rest s⟩
    by_cases h2 : s.el2Enabled = true ∧ (s.ps.el = .el0 ∨ s.ps.el = .el1)
    · rw [accessibleCount_guest hh h2.1 h2.2]
      simp only [haveEL2_of_enabled h2.1, h2, true_and, and_true, ne_eq, ite_not]
      split
      · next h0 => exact h0.symm
      · rfl
    · rw [accessibleCount_all fun h hg => h2 ⟨h, hg⟩, if_neg fun h => h2 h.2.2]
  · change vget (if (s.getX t).getLsbD 1 then resetSelected s.pmu.evcntr (s.accessible .resetCounters) s.pmcrN
      else s.pmu.evcntr) n = _
    refine Eq.trans ?_ (if_congr (and_congr_right fun _ => accessible_iff hh .resetCounters) rfl rfl)
    split
    · next hP => simp only [vget_resetSelected _ _ _ hn, hP, true_and]
    · next hP => rw [if_neg fun h => hP h.1]

end Sys2Proof.Machine
end

section
/-! SUPPORT. Counting: which events and cycles count under a legal HPMN, and what an increment does (42_pmu_controls.md
R175 to R178, R180; 70_reset_and_hazards.md R277). -/

namespace Sys2Proof.Machine

/-! ### The predicates of an event -/

theorem carriesOut_64 (v : Word) : carriesOut 64 v = (v == 0xFFFFFFFFFFFFFFFF) := by
  rw [carriesOut, Bool.eq_iff_iff, decide_eq_true_eq, beq_iff_eq, ← BitVec.toNat_inj]
  change _ ↔ v.toNat = 2 ^ 64 - 1
  omega

theorem carriesOut_32 (v : Word) : carriesOut 32 v = (v.extractLsb' 0 32 == 0xFFFFFFFF) := by
  rw [carriesOut, Bool.eq_iff_iff, decide_eq_true_eq, beq_iff_eq, ← BitVec.toNat_inj, BitVec.extractLsb'_toNat,
    Nat.shiftRight_zero]
  change _ ↔ v.toNat % 2 ^ 32 = 2 ^ 32 - 1
  omega

theorem counterValue_eq (c : Config) (v : Word) :
    counterValue c v = if c.havePMUv3p5 then v else v &&& 0xFFFFFFFF := by
  have hlow : zext64 (low32 v) = v &&& 0xFFFFFFFF := by
    refine BitVec.eq_of_toNat_eq ?_
    rw [BitVec.toNat_and, zext64, low32, BitVec.toNat_setWidth, BitVec.toNat_setWidth]
    change v.toNat % 2 ^ 32 % 2 ^ 64 = v.toNat &&& (2 ^ 32 - 1)
    rw [Nat.and_two_pow_sub_one_eq_mod]
    omega
  rw [counterValue, hlow]

section Legal

variable {s : State} (h2 : s.cfg.haveEL2 = true) (hl : s.hpmnLegal = true) (n : Nat)
include h2 hl

theorem counterEnabled_legal : s.counterEnabled n =
    (s.pmu.pmcnten.getLsbD n && (if n < s.hpmn then s.pmu.pmcr.getLsbD 0 else s.hpme)) := by
  rw [State.counterEnabled, partHpmn_legal h2 hl]
  rfl

theorem counterAllowed_legal : s.counterAllowed n =
    !(decide (n < s.hpmn) && decide (s.ps.el = .el2) && s.hpmd && (s.cfg.haveDebugv8p2 || !s.inp.extDebugEnabled)) := by
  rw [State.counterAllowed, State.prohibitedByHpmd, partHpmn_legal h2 hl, h2, Bool.and_true, Bool.and_assoc,
    Bool.and_assoc, Bool.and_assoc]

theorem overflowWidth_legal : s.overflowWidth n =
    if s.cfg.havePMUv3p5 && (if n < s.hpmn then s.pmu.pmcr.getLsbD 7 else s.hlp) then 64 else 32 := by
  rw [State.overflowWidth, State.pmcrLp, partHpmn_legal h2 hl]
  cases s.cfg.havePMUv3p5
  · rfl
  · simp only [Bool.not_true, Bool.true_and, Bool.false_eq_true, if_false]
    split <;> rfl

end Legal

theorem countsFrom_iff (s : State) (n : Nat) (src : EventSource) :
    s.countsFrom n src = true ↔ src = .thisPE ∨ s.effMt n = true := by
  cases src <;> simp

/-- MTPME is a bit of MDCR_EL2 where MTPMU is implemented and EL3 is not (10_state.md R12). -/
theorem mtpme_stored {s : State} (hm : s.cfg.haveMTPMU = true) (h3 : s.cfg.haveEL3 = false) :
    s.mtpme = s.ctl.mdcrEl2.getLsbD 28 := by
  have hmask : (implMask s.cfg).getLsbD 28 = true := (implMask_getLsbD ..).mpr (.inl ⟨rfl, hm, h3⟩)
  rw [State.mtpme, State.mdcr, BitVec.getLsbD_and, hmask, Bool.and_true]

theorem effMt_of_no_mtpmu {s : State} (hm : s.cfg.haveMTPMU = false) (n : Nat) : s.effMt n = false := by
  simp [State.effMt, hm]

theorem effMt_of_no_el3 {s : State} (h2 : s.cfg.haveEL2 = true) (hm : s.cfg.haveMTPMU = true)
    (h3 : s.cfg.haveEL3 = false) (n : Nat) :
    s.effMt n = (s.ctl.mdcrEl2.getLsbD 28 && !(s.cfg.mtpmeAffinityDisable && s.inp.siblingMtpmuOff)
      && (vget s.pmu.evtyper n).getLsbD 25) := by
  simp [State.effMt, hm, h3, h2, mtpme_stored hm h3]

/-! ### Events -/

/-- What an increment does to the counters and the flags (42_pmu_controls.md R176). -/
theorem incrementCounter_spec (s : State) {n : Nat} (hn : n < 31) :
    vget (s.incrementCounter n).pmu.evcntr n = counterValue s.cfg (vget s.pmu.evcntr n + 1) ∧
    (∀ k, k ≠ n → vget (s.incrementCounter n).pmu.evcntr k = vget s.pmu.evcntr k) ∧
    (∀ j, j ≠ n → (s.incrementCounter n).pmu.pmovs.getLsbD j = s.pmu.pmovs.getLsbD j) ∧
    (s.incrementCounter n).pmu.pmovs.getLsbD n =
      (s.pmu.pmovs.getLsbD n || carriesOut (s.overflowWidth n) (vget s.pmu.evcntr n)) := by
  have hflag (j : Nat) : (s.incrementCounter n).pmu.pmovs.getLsbD j =
      (s.pmu.pmovs.getLsbD j || (carriesOut (s.overflowWidth n) (vget s.pmu.evcntr n) && decide (n = j))) := by
    unfold State.incrementCounter
    simp only
    split
    · next hc =>
      rw [BitVec.getLsbD_or, ← BitVec.twoPow_eq, BitVec.getLsbD_twoPow, hc, decide_eq_true (by omega : n < 64)]
    · next hc => rw [Bool.eq_false_iff.mpr hc, Bool.false_and, Bool.or_false]
  refine ⟨?_, fun k hk => ?_, fun j hj => ?_, ?_⟩
  · exact (vget_vset ..).trans (if_pos ⟨rfl, hn⟩)
  · exact (vget_vset ..).trans (if_neg fun h => hk h.1.symm)
  · rw [hflag, decide_eq_false hj.symm, Bool.and_false, Bool.or_false]
  · rw [hflag, decide_eq_true rfl, Bool.and_true]

theorem step_counterEvent {s : State} {rest : List Event} {n : Nat} {source : EventSource}
    (hev : s.events = .counterEvent n source :: rest) :
    step s = .next (({ s with events := rest } : State).countEvent n source).tick := by
  unfold step
  rw [hev]
  rfl

/-- Settles O57: with a legal HPMN the predicates of R175 to R177 are the printed ones, and an event either increments
the counter or changes nothing. -/
theorem counterEvents : Obligations.CounterEvents := by
  unfold Obligations.CounterEvents
  intro s rest n source hev h2 hl
  refine ⟨fun hm => effMt_of_no_mtpmu hm n, fun hm h3 => effMt_of_no_el3 h2 hm h3 n, _, step_counterEvent hev, ?_⟩
  intro enabled held old long
  have hcounts : (n < s.pmcrN ∧ s.countsFrom n source = true ∧ s.counterEnabled n = true ∧ s.counterAllowed n = true) ↔
      (n < s.pmcrN ∧ (source = .thisPE ∨ s.effMt n = true) ∧ enabled = true ∧ held = false) := by
    rw [countsFrom_iff, counterEnabled_legal h2 hl, counterAllowed_legal h2 hl, Bool.not_eq_true']
  rcases countEvent_cases { s with events := rest } n source with ⟨hu, hc⟩ | ⟨hu, hc⟩
  · rw [if_pos (hcounts.mp hc), hu]
    obtain ⟨hnew, hother, hflags, hflag⟩ :=
      incrementCounter_spec { s with events := rest } (Nat.lt_of_lt_of_le hc.1 (pmcrN_le s))
    refine ⟨hnew.trans (counterValue_eq ..), hother, hflags, hflag.trans ?_⟩
    change (s.pmu.pmovs.getLsbD n || carriesOut (s.overflowWidth n) old) = _
    rw [overflowWidth_legal h2 hl, ← carriesOut_64, ← carriesOut_32]
    change (_ || carriesOut (if long = true then 64 else 32) old) = _
    split <;> rfl
  · rw [if_neg fun h => hc (hcounts.mpr h), hu]
    rfl

/-! ### Cycles -/

/-- A cycle counts exactly when PMCCNTR_EL0 is enabled and no control of EL2 holds it. -/
theorem cycle_counts_iff (s : State) : (s.cycleEnabled && s.cycleAllowed) = true ↔
    s.pmu.pmcnten.getLsbD 31 = true ∧ s.pmu.pmcr.getLsbD 0 = true ∧
      (decide (s.ps.el = .el2) && s.cfg.haveEL2 &&
        (s.hccd || (s.pmcrDp && s.hpmd && (s.cfg.haveDebugv8p2 || !s.inp.extDebugEnabled)))) = false := by
  simp only [State.cycleEnabled, State.pmcrE, State.cycleAllowed, State.prohibitedByHpmd, Bool.and_eq_true, and_assoc]
  refine and_congr_right fun _ => and_congr_right fun _ => ?_
  grind

theorem step_cycle {s : State} {rest : List Event} (hev : s.events = .cycle :: rest) :
    step s = .next (({ s with events := rest } : State).countCycle).tick := by
  unfold step
  rw [hev]
  rfl

/-- Settles O58: a cycle changes PMCCNTR_EL0 and its flag, or nothing. -/
theorem cycleCounterControls : Obligations.CycleCounterControls := by
  unfold Obligations.CycleCounterControls
  intro s rest hev
  have hcounts := cycle_counts_iff { s with events := rest }
  refine ⟨_, step_cycle hev, ?_⟩
  unfold State.countCycle
  by_cases hc : (({ s with events := rest } : State).cycleEnabled &&
      ({ s with events := rest } : State).cycleAllowed) = true
  · rw [if_pos hc]
    refine ⟨rfl, rfl, ?_⟩
    exact (if_pos (hcounts.mp hc)).mpr rfl
  · rw [if_neg hc]
    refine ⟨rfl, rfl, ?_⟩
    exact (if_neg fun h => hc (hcounts.mpr h)).mpr rfl

end Sys2Proof.Machine
end

section
/-! SUPPORT. The profiling, buffer and trace filter registers: what each chain decides, the traps with the syndromes that
the rules print, and the owner of the Profiling Buffer (43_spe_trace.md R200 to R219). -/

namespace Sys2Proof.Machine

/-! ### Where no check stops the access (43_spe_trace.md R201, R204, R208) -/

section Open

variable {s : State} {e : SysEnc} {t : XReg} {control : Bool} {bit off : Nat} {read : Nat → Word}
  {after : State → State} {write : Nat → Word → State}

/-- A register that nested virtualization never redirects. -/
theorem speChain_open_access {read : Bool} (h : s.speOpen control read bit = true) :
    speChain control read bit (.access 0) s = .access 0 :=
  (speChain_open h _).trans (ite_self _)

/-- A read of a register that the pattern 1x1 would redirect. -/
theorem runMrs_speOpen (h : s.speOpen control true bit = true) (hr : s.redirectAny = false) :
    runMrs e t (speChain control true bit (nvThen s.nvAny off) s) read s after =
      .next (((after s).setX t (read 0)).advance) :=
  runMrs_access (speNv_open h (nvAny_of_redirect hr))

/-- A write of such a register. -/
theorem runMsr_speOpen (h : s.speOpen control false bit = true) (hr : s.redirectAny = false) :
    runMsr e t (speChain control false bit (nvThen s.nvAny off) s) write s = .next ((write 0 (s.getX t)).advance) :=
  runMsr_access (speNv_open h (nvAny_of_redirect hr))

end Open

/-- Settles O31: register by register, the chain of its rule is open, and the form reads or writes the register. -/
theorem profilingRegistersComplete : Obligations.ProfilingRegistersComplete := by
  unfold Obligations.ProfilingRegistersComplete
  intro s t
  exact ⟨fun h hr => runMrs_access (speNv_open h (nvAll_of_redirect hr)),
    fun h hr => runMsr_access (speNv_open h (nvAll_of_redirect hr)),
    runMrs_speOpen, runMsr_speOpen, runMrs_speOpen, runMsr_speOpen,
    fun h => runMrs_access (speChain_open_access h), fun h => runMsr_access (speChain_open_access h),
    runMrs_speOpen, runMsr_speOpen, runMrs_speOpen, runMsr_speOpen, fun h => runMrs_access (speChain_open_access h),
    runMrs_speOpen, runMsr_speOpen, runMrs_speOpen, runMsr_speOpen, runMrs_speOpen, runMsr_speOpen,
    fun hp he => runMrs_access (pmbidrChain_open hp he),
    fun h hr => runMrs_access (trfcrChain_open h hr), fun h hr => runMsr_access (trfcrChain_open h hr)⟩

/-! ### Where a check stops the access: the groups of accesses -/

section Groups

variable (s : State) (t : XReg)

theorem profilingAccesses_obey :
    ∀ a ∈ profilingAccesses t, ∃ acc, s.Obeys a.instr (speChain s.tpms a.read a.bit acc s) := by
  simp only [profilingAccesses, List.forall_mem_cons]
  exact ⟨⟨_, obeys_mrs⟩, ⟨_, obeys_msr⟩, ⟨_, obeys_mrs⟩, ⟨_, obeys_msr⟩, ⟨_, obeys_mrs⟩, ⟨_, obeys_msr⟩,
    ⟨_, obeys_mrs⟩, ⟨_, obeys_msr⟩, ⟨_, obeys_mrs⟩, ⟨_, obeys_msr⟩, ⟨_, obeys_mrs⟩, ⟨_, obeys_msr⟩,
    ⟨_, obeys_mrs⟩, List.forall_mem_nil _⟩

theorem bufferAccesses_obey :
    ∀ a ∈ bufferAccesses t, ∃ acc, s.Obeys a.instr (speChain (!s.e2pb.getLsbD 0) a.read a.bit acc s) := by
  simp only [bufferAccesses, List.forall_mem_cons]
  exact ⟨⟨_, obeys_mrs⟩, ⟨_, obeys_msr⟩, ⟨_, obeys_mrs⟩, ⟨_, obeys_msr⟩, ⟨_, obeys_mrs⟩, ⟨_, obeys_msr⟩,
    List.forall_mem_nil _⟩

/-- Both groups have a chain of the one shape, each with its own control of MDCR_EL2. -/
theorem speAccesses_obey : ∀ a ∈ profilingAccesses t ++ bufferAccesses t,
    ∃ control acc, s.Obeys a.instr (speChain control a.read a.bit acc s) :=
  List.forall_mem_append.mpr
    ⟨fun a ha => ⟨_, profilingAccesses_obey s t a ha⟩, fun a ha => ⟨_, bufferAccesses_obey s t a ha⟩⟩

theorem mrsPmbidrEl1_obeys : s.Obeys (.mrsPmbidrEl1 t) (pmbidrChain s) := obeys_mrs

theorem mrsTrfcrEl1_obeys : s.Obeys (.mrsTrfcrEl1 t) (trfcrChain true s) := obeys_mrs

theorem msrTrfcrEl1_obeys : s.Obeys (.msrTrfcrEl1 t) (trfcrChain false s) := obeys_msr

end Groups

/-! ### What the chains decide -/

section Chains

variable {s : State} {control read : Bool} {bit : Nat}

theorem nspbTrap_of_nspbTraps (h : s.nspbTraps) : s.nspbTrap = true := by
  obtain ⟨h3, hns⟩ := h
  unfold State.nspbTrap
  cases hscr : s.ctl.scrEl3.getLsbD 0 <;> simp_all

/-- The fine-grained bit and the control of MDCR_EL2 come before every control of EL3. -/
theorem speChain_el2 (hp : s.cfg.haveSPE = true) (he : s.ps.el = .el1)
    (h : (s.fgt1 read bit || (s.a64EL2 && control)) = true) (acc : Decision) :
    speChain control read bit acc s = .trap .el2 := by
  unfold speChain
  cases hf : s.fgt1 read bit
  · rw [hf, Bool.false_or] at h
    simp [hp, he, h]
  · simp [hp, he]

theorem speChain_el3 (hp : s.cfg.haveSPE = true) (h3 : s.nspbTraps)
    (hq : s.NoEl2Check (s.fgt1 read bit || (s.a64EL2 && control))) (acc : Decision) :
    speChain control read bit acc s = .trap .el3 := by
  have hnspb := nspbTrap_of_nspbTraps h3
  unfold speChain
  rcases hq with he | ⟨he, hq⟩
  · simp [hp, he, hnspb]
  · obtain ⟨hf, hd⟩ := Bool.or_eq_false_iff.mp hq
    simp [hp, he, hf, hd, hnspb]

theorem speChain_undefined (h : s.cfg.haveSPE = false ∨ s.ps.el = .el0) (acc : Decision) :
    speChain control read bit acc s = .undefined := by
  rcases h with hp | he
  · simp only [speChain, hp, Bool.not_false, if_true]
  · exact speChain_el0 he ..

theorem pmbidrChain_undefined (h : s.cfg.haveSPE = false ∨ s.ps.el = .el0) : pmbidrChain s = .undefined := by
  rcases h with hp | he
  · simp only [pmbidrChain, hp, Bool.not_false, if_true]
  · exact pmbidrChain_el0 he

/-- TTRF, and for the write its fine-grained bit, come before MDCR_EL3.TTRF. -/
theorem trfcrChain_el2 (hp : s.cfg.haveTraceFilt = true) (he : s.ps.el = .el1)
    (h : ((!read && s.fgt1 false 49) || (s.a64EL2 && s.ttrf)) = true) : trfcrChain read s = .trap .el2 := by
  unfold trfcrChain
  cases hf : !read && s.fgt1 false 49
  · rw [hf, Bool.false_or] at h
    simp [hp, he, h]
  · simp [hp, he]

theorem trfcrChain_el3 (hp : s.cfg.haveTraceFilt = true) (h3 : s.a64EL3 = true) (ht : s.ttrf3 = true)
    (hq : s.NoEl2Check ((!read && s.fgt1 false 49) || (s.a64EL2 && s.ttrf))) : trfcrChain read s = .trap .el3 := by
  unfold trfcrChain
  rcases hq with he | ⟨he, hq⟩
  · simp [hp, he, h3, ht]
  · obtain ⟨hf, hd⟩ := Bool.or_eq_false_iff.mp hq
    simp only [hp, he, hf, hd, h3, ht, Bool.not_true, Bool.and_self, Bool.false_eq_true, if_false, if_true]

theorem trfcrChain_undefined (h : s.cfg.haveTraceFilt = false ∨ s.ps.el = .el0) :
    trfcrChain read s = .undefined := by
  rcases h with hp | he
  · simp only [trfcrChain, hp, Bool.not_false, if_true]
  · exact trfcrChain_el0 he read

end Chains

/-- Settles O41: the controls of EL2, the fine-grained bits first, then those of EL3, decide the chain of each group, and
each access of the group obeys it. -/
theorem profilingTraps : Obligations.ProfilingTraps := by
  unfold Obligations.ProfilingTraps
  intro s t
  refine ⟨fun h2 he => ⟨fun hp ht => ?_, fun hp hb => ?_, fun hp ht => ?_⟩,
    fun hp => ⟨fun a ha he hf => ?_, fun h3 a ha hq => ?_, fun h3 a ha hq => ?_⟩,
    fun hp => ⟨fun he hf => ?_, fun h3 ht hq => ⟨?_, fun hw => ?_⟩⟩,
    fun h => ⟨fun a ha => ?_, ?_⟩, fun h => ⟨?_, ?_⟩⟩
  -- TPMS, E2PB and TTRF at EL1
  · have trap (read : Bool) (bit : Nat) (acc : Decision) : speChain s.tpms read bit acc s = .trap .el2 :=
      speChain_el2 hp he (by rw [h2, ht, Bool.and_self, Bool.or_true]) acc
    exact ⟨runMrs_printed (trap ..) rfl, runMsr_printed (trap ..) rfl, runMrs_printed (trap ..) rfl,
      runMsr_printed (trap ..) rfl, runMrs_printed (trap ..) rfl, runMsr_printed (trap ..) rfl,
      runMrs_printed (trap ..) rfl, runMsr_printed (trap ..) rfl, runMrs_printed (trap ..) rfl,
      runMsr_printed (trap ..) rfl, runMrs_printed (trap ..) rfl, runMsr_printed (trap ..) rfl,
      runMrs_printed (trap ..) rfl⟩
  · have trap (read : Bool) (bit : Nat) (acc : Decision) :
        speChain (!s.e2pb.getLsbD 0) read bit acc s = .trap .el2 :=
      speChain_el2 hp he (by rw [h2, hb, Bool.not_false, Bool.and_self, Bool.or_true]) acc
    exact ⟨runMrs_printed (trap ..) rfl, runMsr_printed (trap ..) rfl, runMrs_printed (trap ..) rfl,
      runMsr_printed (trap ..) rfl, runMrs_printed (trap ..) rfl, runMsr_printed (trap ..) rfl⟩
  · have trap (read : Bool) : trfcrChain read s = .trap .el2 :=
      trfcrChain_el2 hp he (by rw [h2, ht, Bool.and_self, Bool.or_true])
    exact ⟨runMrs_printed (trap true) rfl, runMsr_printed (trap false) rfl⟩
  -- the fine-grained bits at EL1, and MDCR_EL3.NSPB
  · obtain ⟨control, acc, hobeys⟩ := speAccesses_obey s t a ha
    exact hobeys.trap (speChain_el2 hp he (by rw [hf, Bool.true_or]) acc)
  · obtain ⟨acc, hobeys⟩ := profilingAccesses_obey s t a ha
    exact hobeys.trap (speChain_el3 hp h3 hq acc)
  · obtain ⟨acc, hobeys⟩ := bufferAccesses_obey s t a ha
    exact hobeys.trap (speChain_el3 hp h3 hq acc)
  -- TRFCR_EL1: the fine-grained bit of the write, and MDCR_EL3.TTRF
  · exact (msrTrfcrEl1_obeys s t).trap (trfcrChain_el2 hp he (by rw [hf]; rfl))
  · exact (mrsTrfcrEl1_obeys s t).trap (trfcrChain_el3 hp h3 ht hq)
  · refine (msrTrfcrEl1_obeys s t).trap (trfcrChain_el3 hp h3 ht ?_)
    rcases hq with he | ⟨he, hq⟩
    · exact .inl he
    · rcases hw with hw | hf
      · exact .inl hw
      · exact .inr ⟨he, by rw [hf, hq]; rfl⟩
  -- without the feature, and at EL0
  · obtain ⟨control, acc, hobeys⟩ := speAccesses_obey s t a ha
    exact hobeys.undefined (speChain_undefined h acc)
  · exact (mrsPmbidrEl1_obeys s t).undefined (pmbidrChain_undefined h)
  · exact (mrsTrfcrEl1_obeys s t).undefined (trfcrChain_undefined h)
  · exact (msrTrfcrEl1_obeys s t).undefined (trfcrChain_undefined h)

/-! ### The owner of the Profiling Buffer (43_spe_trace.md R203 to R207) -/

section Owner

variable {s : State}

theorem owningRegime_of_not_enabled (h2 : s.el2EnabledInOwner = false) : s.owningRegime = .el10 := by
  simp [State.owningRegime, h2]

theorem owningRegime_e2pb_0 (h2 : s.el2EnabledInOwner = true) (h : s.e2pb = 0) :
    s.owningRegime = if s.e2h then .el20 else .el2 := by
  simp [State.owningRegime, h2, h]

theorem owningRegime_e2pb_2_3 (h2 : s.el2EnabledInOwner = true) (h : s.e2pb = 2 ∨ s.e2pb = 3) :
    s.owningRegime = .el10 := by
  rcases h with h | h <;> simp [State.owningRegime, h2, h]

/-- The reserved value behaves as 0b00 or as 0b10. -/
theorem owningRegime_e2pb_1 (h2 : s.el2EnabledInOwner = true) (h : s.e2pb = 1) :
    s.owningRegime = .el10 ∨ s.owningRegime = if s.e2h then .el20 else .el2 := by
  have hregime : s.owningRegime =
      if (s.free .regime).getLsbD 0 then (if s.e2h then .el20 else .el2) else .el10 := by
    simp [State.owningRegime, h2, h]
  rw [hregime]
  split
  · exact .inr rfl
  · exact .inl rfl

theorem owningEL_el1_iff : s.owningEL = .el1 ↔ s.owningRegime = .el10 := by
  unfold State.owningEL
  split
  · next h => exact iff_of_true rfl h
  · next h => exact iff_of_false nofun h

theorem pmbidrRead_P (s : State) : s.pmbidrRead.getLsbD 4 = s.pmbidrP := by
  have hmask : (~~~0x10#64).getLsbD 4 = false := by decide
  rw [State.pmbidrRead, BitVec.getLsbD_or, BitVec.getLsbD_and, hmask, Bool.and_false, Bool.false_or]
  cases s.pmbidrP <;> rfl

/-- Without EL3, P is the E2PB test at EL1 where EL2 is implemented, and 0 at every other level. -/
theorem pmbidrP_without_el3 (h3 : s.cfg.haveEL3 = false) :
    s.pmbidrP = true ↔ s.ps.el = .el1 ∧ s.cfg.haveEL2 = true ∧ s.e2pb = 0 := by
  simp [State.pmbidrP, h3, and_assoc]

end Owner

/-- Settles O60: value by value of E2PB, and by the bit of PMBIDR_EL1 that a completed read returns. -/
theorem profilingBufferOwner : Obligations.ProfilingBufferOwner := by
  unfold Obligations.ProfilingBufferOwner
  intro s
  refine ⟨owningRegime_of_not_enabled, owningRegime_e2pb_0, owningRegime_e2pb_2_3, owningRegime_e2pb_1,
    owningEL_el1_iff, fun h => ?_, fun h => ?_, fun t ht hp h3 he => ?_⟩
  · have hb : (s.e2pb == 0) = false := beq_false_of_ne h
    exact ⟨by rw [State.effE2spe, hb, Bool.false_and], by rw [State.effE0hspe, hb, Bool.false_and]⟩
  · have hb : (s.e2pb == 0) = true := beq_iff_eq.mpr h
    exact ⟨by rw [State.effE2spe, hb, Bool.true_and], by rw [State.effE0hspe, hb, Bool.true_and]⟩
  · have h0 : s.ps.el ≠ .el0 := by rcases he with he | he <;> rw [he] <;> decide
    refine ⟨_, runMrs_access (pmbidrChain_open hp h0), ?_⟩
    rw [id, s.getX_setX_advance ht, pmbidrRead_P, pmbidrP_without_el3 h3]

end Sys2Proof.Machine
end

section
/-! SUPPORT. The exceptions family: the syndrome of MRS and MSR, what one instruction does, the exception entry and the
exception return (60_exceptions.md R226, R228, R241, R242). -/

namespace Sys2Proof.Machine

/-! ### Words as the sums of their fields -/

/-- A word built from two parts is their sum, the upper part at its position. -/
theorem toNat_append_add {m n : Nat} (x : BitVec m) (y : BitVec n) :
    (x ++ y).toNat = x.toNat * 2 ^ n + y.toNat := by
  rw [BitVec.toNat_append, ← Nat.shiftLeft_add_eq_or_of_lt y.isLt, Nat.shiftLeft_eq]

theorem iss18_toNat (e : SysEnc) (t : XReg) (read : Bool) :
    (iss18 e t read).toNat = e.op0.toNat * 2 ^ 20 + e.op2.toNat * 2 ^ 17 + e.op1.toNat * 2 ^ 14 + e.crn.toNat * 2 ^ 10
      + t.toNat * 2 ^ 5 + e.crm.toNat * 2 + (if read then 1 else 0) := by
  simp only [iss18, toNat_append_add, BitVec.toNat_ofBool, Bool.toNat, Bool.cond_eq_ite, BitVec.toNat_ofNat]
  omega

/-- The fields of an MRS or MSR instruction are those of the word that decodes to it (30_encoding.md R62). -/
theorem fields_of_decodeWord {w : Word32} {i : Instr} {e : SysEnc} {t : XReg} {read : Bool}
    (hw : decodeWord .a64 w = .instr i) (hf : i.form = .a64 read e t) : Form.parseA64 w = some (.a64 read e t) := by
  obtain ⟨hword, -, hset⟩ := decodeWord_eq_instr_iff.1 hw
  rw [← hf]
  exact Form.parse_eq_some_iff.2 ⟨hword, hset⟩

/-- Settles O5: the syndrome is the sum of its fields, and the fields of the instruction are read off its word. -/
theorem syndromeOfA64Access : Obligations.SyndromeOfA64Access := by
  unfold Obligations.SyndromeOfA64Access
  refine ⟨iss18_toNat, fun w i e t read hw hf => ?_, rfl, rfl, rfl⟩
  have hparse := fields_of_decodeWord hw hf
  unfold Form.parseA64 at hparse
  split at hparse
  · cases hparse
    exact ⟨rfl, rfl, rfl, rfl, rfl, rfl, rfl⟩
  · cases hparse

/-! ### What one instruction does -/

theorem State.undefinedTarget_ne_el0 (s : State) : s.undefinedTarget ≠ .el0 := by
  unfold State.undefinedTarget
  split
  · split <;> nofun
  · next h0 => exact h0

/-- No exception is taken to EL0 (60_exceptions.md R220). -/
theorem State.exceptionTarget_ne_el0 {s : State} {T : EL} (h : s.exceptionTarget T) : T ≠ .el0 := by
  rcases h with rfl | htrap
  · exact s.undefinedTarget_ne_el0
  · exact (State.entryLevel_of_trapTarget htrap).ne_el0

/-- Settles O13, outcome by outcome: an exception is an entry to its target level, a halt is the halt, and an access
that completes moves on. -/
theorem oneExceptionOrOneAccess : Obligations.OneExceptionOrOneAccess := by
  unfold Obligations.OneExceptionOrOneAccess
  intro i s
  obtain ⟨t, ht, ho⟩ := exec_outcome i s
  refine ⟨t, ht, ?_⟩
  rcases ho with hraise | rfl | ⟨u, rfl, ha⟩
  · obtain ⟨T, hent, hT⟩ := hraise.entered
    obtain rfl := hent.el
    exact .inr (.inr ⟨hent.frame, State.exceptionTarget_ne_el0 hT, State.exceptionTarget_le hT, hent.nRW⟩)
  · exact .inl rfl
  · have hpc : u.advance.pc = s.pc + 4 := by rw [State.advance_pc, ha.pc]
    have hps : u.advance.ps = s.advance.ps := by rw [State.advance_ps, State.advance_ps, ha.ps]
    refine .inr (.inl ⟨hpc, by rw [hps]; rfl, fun hthumb => ?_, ha.exc, ha.inp⟩)
    rw [hps, State.advance_ps, hthumb]
    rfl

/-- Every AArch32 instruction is an access under its own condition field. -/
theorem exec_eq_run32 {i : Instr} {c : Cond} (h : i.condField = some c) (s : State) :
    ∃ ec iss d acc zero, exec i s = run32 c ec iss d acc zero s := by
  cases i <;> cases h <;> exact ⟨_, _, _, _, _, rfl⟩

/-- Settles O16: the instruction is an access under its condition, and where that fails the access is a NOP. -/
theorem failedConditionIsANop : Obligations.FailedConditionIsANop := by
  unfold Obligations.FailedConditionIsANop
  intro i s c hfield hcond htrap
  obtain ⟨ec, iss, d, acc, zero, hexec⟩ := exec_eq_run32 hfield s
  rw [hexec]
  exact run32_failed hcond htrap

/-! ### PSTATE and the saved program status (60_exceptions.md R241) -/

theorem EL.num_lt (T : EL) : T.num < 4 := by cases T <;> decide

/-- The saved PSTATE of AArch64 state is the sum of its fields. -/
theorem PState.toSpsr_toNat {p : PState} (h : p.nRW = false) :
    p.toSpsr.toNat = p.n.toNat * 2 ^ 31 + p.z.toNat * 2 ^ 30 + p.c.toNat * 2 ^ 29 + p.v.toNat * 2 ^ 28
      + p.tco.toNat * 2 ^ 25 + p.dit.toNat * 2 ^ 24 + p.uao.toNat * 2 ^ 23 + p.pan.toNat * 2 ^ 22
      + p.ss.toNat * 2 ^ 21 + p.il.toNat * 2 ^ 20 + p.ssbs.toNat * 2 ^ 12 + p.btype.toNat * 2 ^ 10
      + p.d.toNat * 2 ^ 9 + p.a.toNat * 2 ^ 8 + p.i.toNat * 2 ^ 7 + p.f.toNat * 2 ^ 6 + p.el.num * 4 + p.sp.toNat := by
  have hel : p.el.num % 2 ^ 2 = p.el.num := Nat.mod_eq_of_lt p.el.num_lt
  simp only [PState.toSpsr, h, Bool.false_eq_true, if_false, Bool.false_and, toNat_append_add, BitVec.toNat_ofBool,
    BitVec.toNat_ofNat, hel, Bool.toNat_false]
  omega

/-- The level that an SPSR names is M[3:2]. -/
theorem PState.ofSpsr_el_num (p : PState) (v : Word) : (PState.ofSpsr p v).el.num = (v.extractLsb' 2 2).toNat := by
  have hlt : (v.extractLsb' 2 2).toNat < 4 := (v.extractLsb' 2 2).isLt
  simp only [PState.ofSpsr]
  generalize (v.extractLsb' 2 2).toNat = m at hlt
  interval_cases m <;> rfl

theorem EL.num_injective {T T' : EL} (h : T.num = T'.num) : T = T' := by
  cases T <;> cases T' <;> first | rfl | exact absurd h (by decide)

/-- Bits [3:2] of the saved PSTATE are the level. -/
theorem PState.toSpsr_level (p : PState) : p.toSpsr.extractLsb' 2 2 = BitVec.ofNat 2 p.el.num := by
  ext j hj
  simp only [PState.toSpsr, BitVec.getElem_extractLsb', BitVec.getLsbD_append]
  interval_cases j <;> simp

/-- In AArch64 state bits [11:10] of the saved PSTATE are BTYPE. -/
theorem PState.toSpsr_btype {p : PState} (h : p.nRW = false) : p.toSpsr.extractLsb' 10 2 = p.btype := by
  ext j hj
  simp only [PState.toSpsr, BitVec.getElem_extractLsb', BitVec.getLsbD_append, h, Bool.false_eq_true, if_false]
  interval_cases j <;> simp

/-- PSTATE of AArch64 state comes back from its saved form: each field is read where it was put. -/
theorem PState.ofSpsr_toSpsr {p : PState} (q : PState) (hnrw : p.nRW = false) (hthumb : p.thumb = false)
    (hit : p.it = 0) : PState.ofSpsr q p.toSpsr = p := by
  have hstate : p.toSpsr.getLsbD 4 = false := by
    simp only [PState.toSpsr, BitVec.getLsbD_append, hnrw]; simp
  have hel : (PState.ofSpsr q p.toSpsr).el = p.el := EL.num_injective (by
    rw [PState.ofSpsr_el_num, p.toSpsr_level, BitVec.toNat_ofNat, Nat.mod_eq_of_lt p.el.num_lt])
  have hbtype := PState.toSpsr_btype hnrw
  obtain ⟨n, z, c, v, tco, dit, uao, pan, ss, il, ssbs, btype, d, a, i, f, nRW, el, sp, thumb, it⟩ := p
  simp only at hnrw hthumb hit
  subst hnrw hthumb hit
  simp only [PState.ofSpsr, hstate, hbtype, Bool.false_and, Bool.false_eq_true, if_false] at hel ⊢
  rw [hel]
  simp only [PState.toSpsr, BitVec.getLsbD_append, Bool.false_and, Bool.false_eq_true, if_false]
  simp

/-! ### The exception registers -/

theorem State.bank_setBank_same (s : State) {T : EL} (b : ExcBank) (hT : T ≠ .el0) : (s.setBank T b).bank T = b := by
  cases T with
  | el0 => exact absurd rfl hT
  | el1 => rfl
  | el2 => rfl
  | el3 => rfl

theorem State.bank_setBank_ne (s : State) {T T' : EL} (b : ExcBank) (hT' : T' ≠ .el0) (hne : T' ≠ T) :
    (s.setBank T b).bank T' = s.bank T' := by
  cases T <;> cases T' <;> first | rfl | exact absurd rfl hT' | exact absurd rfl hne

/-- FAR_EL2 and HPFAR_EL2 are not part of the registers of a level. -/
theorem State.setBank_faultAddress (s : State) (T : EL) (b : ExcBank) :
    (s.setBank T b).exc.farEl2 = s.exc.farEl2 ∧ (s.setBank T b).exc.hpfarEl2 = s.exc.hpfarEl2 := by
  cases T <;> exact ⟨rfl, rfl⟩

/-! ### Exception entry -/

theorem State.take_of_a64 {s : State} {T : EL} (esr : Word) (h : s.elA32 T = false) :
    s.take T esr = s.takeSync T esr := by
  simp only [State.take, h, Bool.false_eq_true, if_false]

/-- The registers of every level after an entry are those after the three of the target level are written. -/
theorem State.takeSync_bank (s : State) (T T' : EL) (esr : Word) :
    (s.takeSync T esr).bank T' =
      (s.setBank T { s.bank T with spsr := s.ps.toSpsr, elr := s.pc, esr := esr }).bank T' := by
  cases T <;> cases T' <;> rfl

theorem State.takeSync_bank_same (s : State) {T : EL} (esr : Word) (hT : T ≠ .el0) :
    (s.takeSync T esr).bank T = { esr := esr, elr := s.pc, spsr := s.ps.toSpsr, vbar := (s.bank T).vbar } := by
  rw [State.takeSync_bank, s.bank_setBank_same _ hT]

theorem State.takeSync_bank_ne (s : State) {T T' : EL} (esr : Word) (hT' : T' ≠ .el0) (hne : T' ≠ T) :
    (s.takeSync T esr).bank T' = s.bank T' := by
  rw [State.takeSync_bank, s.bank_setBank_ne _ hT' hne]

theorem State.takeSync_faultAddress (s : State) {T : EL} (esr : Word) (hT : T ≠ .el2) :
    (s.takeSync T esr).exc.farEl2 = s.exc.farEl2 ∧ (s.takeSync T esr).exc.hpfarEl2 = s.exc.hpfarEl2 := by
  have hexc : (s.takeSync T esr).exc =
      (s.setBank T { s.bank T with spsr := s.ps.toSpsr, elr := s.pc, esr := esr }).exc := by
    simp only [State.takeSync, State.saveFor, if_neg hT]
  rw [hexc]
  exact s.setBank_faultAddress T _

theorem vectorBase_eq (v : Word) : vectorBase v = v &&& ~~~0x7FF#64 := rfl

/-- Settles O48: the entry to a level using AArch64 is TakeSync, whose parts are the lemmas above. -/
theorem exceptionEntry : Obligations.ExceptionEntry := by
  unfold Obligations.ExceptionEntry
  intro s T esr hT _ h64
  refine ⟨s.takeSync T esr, s.take_of_a64 esr h64, (s.takeSync_entered esr h64).frame, s.takeSync_bank_same esr hT,
    fun T' hT' hne => s.takeSync_bank_ne esr hT' hne, s.takeSync_faultAddress esr, rfl, ?_, PState.toSpsr_toNat⟩
  rw [← vectorBase_eq]
  cases T <;> rfl

theorem State.undefinedTarget_eq (s : State) : s.undefinedTarget =
    if s.ps.el = .el0 then (if s.el2Enabled = true ∧ s.ctl.hcrEl2.getLsbD 27 = true then .el2 else .el1)
    else s.ps.el := by
  simp only [State.undefinedTarget, State.tge, Bool.and_eq_true]

/-- Settles O49: the target of the Undefined exception, and what the entry saves there. -/
theorem undefinedException : Obligations.UndefinedException := by
  unfold Obligations.UndefinedException
  intro s
  refine ⟨s.undefinedTarget, s.takeUndefined, rfl, s.undefinedTarget_eq, rfl, s.take_el _ _, fun h64 => ?_⟩
  have hbank := s.takeSync_bank_same undefinedEsr s.undefinedTarget_ne_el0
  rw [← s.take_of_a64 undefinedEsr h64] at hbank
  rw [State.takeUndefined, hbank, s.take_nRW]
  exact ⟨rfl, rfl, h64⟩

/-! ### Exception return -/

/-- The registers of every level after a return are those after the three of the level left became free values. -/
theorem State.returnFrom_bank (s : State) (T T' : EL) :
    (s.returnFrom T).bank T' =
      (s.setBank T { s.bank T with
        esr := s.freeLow (.afterReturn 0), elr := s.free (.afterReturn 1)
        spsr := s.freeLow (.afterReturn 2) }).bank T' := by
  cases T' <;> rfl

theorem State.returnFrom_bank_same (s : State) {T : EL} (hT : T ≠ .el0) :
    (s.returnFrom T).bank T =
      { esr := s.freeLow (.afterReturn 0), elr := s.free (.afterReturn 1), spsr := s.freeLow (.afterReturn 2)
        vbar := (s.bank T).vbar } := by
  rw [State.returnFrom_bank, s.bank_setBank_same _ hT]

theorem State.returnFrom_bank_ne (s : State) {T T' : EL} (hT' : T' ≠ .el0) (hne : T' ≠ T) :
    (s.returnFrom T).bank T' = s.bank T' := by
  rw [State.returnFrom_bank, s.bank_setBank_ne _ hT' hne]

theorem State.returnFrom_faultAddress (s : State) (T : EL) :
    (s.returnFrom T).exc.farEl2 = s.exc.farEl2 ∧ (s.returnFrom T).exc.hpfarEl2 = s.exc.hpfarEl2 :=
  s.setBank_faultAddress T _

/-- A value drawn for ESR or SPSR has no bit above 31 set (10_state.md R43). -/
theorem State.freeLow_high (s : State) (site : DrawSite) : (s.freeLow site).extractLsb' 32 32 = 0 := by
  have hmask : (0xFFFFFFFF : Word).extractLsb' 32 32 = 0 := by decide
  rw [State.freeLow, BitVec.extractLsb'_and, hmask]
  exact BitVec.and_zero

/-- Of the level left, VBAR is as before, and ESR and SPSR have no bit above 31 set. -/
theorem State.returnFrom_bank_left (s : State) {T : EL} (hT : T ≠ .el0) :
    ((s.returnFrom T).bank T).vbar = (s.bank T).vbar ∧ ((s.returnFrom T).bank T).esr.extractLsb' 32 32 = 0 ∧
      ((s.returnFrom T).bank T).spsr.extractLsb' 32 32 = 0 := by
  rw [s.returnFrom_bank_same hT]
  exact ⟨rfl, s.freeLow_high _, s.freeLow_high _⟩

/-- Settles O52: the entry saves PSTATE and the pc in the registers that the return restores them from. -/
theorem returnUndoesEntry : Obligations.ReturnUndoesEntry := by
  unfold Obligations.ReturnUndoesEntry
  intro s T esr hT h64 hnrw hthumb hit
  have hbank := s.takeSync_bank_same esr hT
  have hentry := (s.takeSync_entered esr h64).frame
  refine ⟨_, rfl, ?_⟩
  rw [s.take_of_a64 esr h64, State.returnFrom_eq, hbank]
  exact ⟨PState.ofSpsr_toSpsr _ hnrw hthumb hit, rfl, by rw [hentry], by rw [hentry], by rw [hentry]⟩

/-- The return is legal when the SPSR is none of the reserved ones and its level exists and is not above the current
one (60_exceptions.md R242). -/
theorem State.legalReturn_iff (s : State) (T : EL) (v : Word) :
    s.legalReturn T v = true ↔
      v.getLsbD 1 = false ∧ ¬((v.extractLsb' 2 2).toNat = 0 ∧ v.getLsbD 0 = true) ∧
      (v.extractLsb' 2 2).toNat ≤ T.num ∧
      ((v.extractLsb' 2 2).toNat = 2 → s.el2Enabled = true ∧ (v.getLsbD 4 = true → s.secureEL2 = false)) ∧
      ((v.extractLsb' 2 2).toNat = 3 → s.cfg.haveEL3 = true) := by
  have hsp : (PState.ofSpsr s.ps v).sp = v.getLsbD 0 := rfl
  have hnrw : (PState.ofSpsr s.ps v).nRW = v.getLsbD 4 := rfl
  simp only [← PState.ofSpsr_el_num s.ps v, State.legalReturn, hsp, hnrw, Bool.and_eq_true, decide_eq_true_eq,
    and_assoc]
  generalize T.num = bound
  cases (PState.ofSpsr s.ps v).el with
  | el0 => simp [State.haveEL, EL.num]
  | el1 => simp [State.haveEL, EL.num]
  | el2 =>
    by_cases he : s.el2Enabled = true
    · cases v.getLsbD 4 <;> simp [State.haveEL, EL.num, he, haveEL2_of_enabled he]
    · simp [State.haveEL, EL.num, he]
  | el3 => simp [State.haveEL, EL.num, and_comm]

/-- A step that finds an exception return in AArch64 state, above EL0, returns where the SPSR is legal. -/
theorem step_exceptionReturn {s : State} {rest : List Event} (hev : s.events = .exceptionReturn :: rest)
    (h0 : s.ps.el ≠ .el0) (h64 : s.ps.nRW = false) :
    step s = if s.legalReturn s.ps.el (s.bank s.ps.el).spsr then
        .next (({ s with events := rest } : State).returnFrom s.ps.el).tick
      else .refused (.illegalExceptionReturn (s.bank s.ps.el).spsr) := by
  have hnot : ¬(s.ps.el = .el0 ∨ s.ps.nRW = true) := by simp [h0, h64]
  have houtcome : step s = tickOutcome (exceptionReturn { s with events := rest }) := by
    unfold step
    rw [hev]
    rfl
  rw [houtcome, exceptionReturn, if_neg hnot, apply_ite tickOutcome]
  rfl

/-- A return to AArch64 state restores the fields in whose place AArch32 state saves IT (60_exceptions.md R241). -/
theorem PState.ofSpsr_of_a64 (p : PState) {v : Word} (h : v.getLsbD 4 = false) :
    (PState.ofSpsr p v).tco = v.getLsbD 25 ∧ (PState.ofSpsr p v).ssbs = v.getLsbD 12 ∧
      (PState.ofSpsr p v).btype = v.extractLsb' 10 2 := by
  simp only [PState.ofSpsr, h, Bool.false_eq_true, if_false, and_self]

end Sys2Proof.Machine

namespace Sys2Proof

open Machine

/-- Settles O51: the condition is that of a legal return, whose parts are the lemmas above. -/
theorem exceptionReturn : Obligations.ExceptionReturn := by
  unfold Obligations.ExceptionReturn
  intro s rest b hev h0 h64 hb m
  subst hb
  have hstep := step_exceptionReturn hev h0 h64
  have hlegal := s.legalReturn_iff s.ps.el (s.bank s.ps.el).spsr
  split
  case isTrue hc =>
    rw [if_pos (hlegal.mpr hc)] at hstep
    obtain ⟨hvbar, hesr, hspsr⟩ := State.returnFrom_bank_left { s with events := rest } h0
    obtain ⟨hfar, hhpfar⟩ := State.returnFrom_faultAddress { s with events := rest } s.ps.el
    refine ⟨_, hstep, ?_, fun T hT hne => State.returnFrom_bank_ne { s with events := rest } hT hne,
      hvbar, hesr, hspsr, hfar, hhpfar,
      rfl, rfl, rfl, rfl, rfl, rfl, rfl, rfl, rfl, rfl, rfl, rfl, rfl, rfl, PState.ofSpsr_el_num _ _, rfl,
      fun h4 => PState.ofSpsr_of_a64 _ h4, fun hel => ?_⟩
    · rw [State.returnFrom_eq]
      rfl
    · exact (State.returnFrom_nRW (s := { s with events := rest }) (hlegal.mpr hc) hel).symm
  case isFalse hc =>
    rw [hstep, if_neg (mt hlegal.mp hc)]

end Sys2Proof
end

section
/-! SUPPORT. The reset family: the step of a reset, MDCR_EL2 bit by bit after it, and the invariant of the Cold-reset
state of every configuration (70_reset_and_hazards.md R260 to R263, R266 to R268). -/

namespace Sys2Proof.Machine

/-! ### The step -/

theorem step_reset {s : State} {rest : List Event} {cold : Bool}
    (hev : s.events = (if cold then .coldReset else .warmReset) :: rest) :
    step s = .next (({ s with events := rest } : State).afterReset cold).tick := by
  unfold step
  rw [hev]
  cases cold <;> rfl

/-! ### MDCR_EL2 after a reset (70_reset_and_hazards.md R261 to R263, R266, R267) -/

/-- HPMN is the field [4:0] and has the width of PMCR_N. -/
theorem pmcrN_getLsbD_of_ge (n : BitVec 5) {j : Nat} (hj : 5 ≤ j) : (n.setWidth 64).getLsbD j = false := by
  rw [BitVec.getLsbD_setWidth, BitVec.getLsbD_of_ge n j hj, Bool.and_false]

theorem mtpmeBit_getLsbD (j : Nat) : (0x10000000 : Word).getLsbD j = true ↔ j = 28 :=
  getLsbD_word_iff (p := (· = 28)) (by decide) (by omega) j

/-- The fields that a reset leaves UNKNOWN, by the Execution state that the PE resets into. -/
def unknownAfterReset (c : Config) : Word := if c.resetIntoAArch64 then unknownFields64 else unknownFields32

theorem unknownAfterReset_getLsbD {c : Config} {j : Nat}
    (h : unknownFields64.getLsbD j = false ∧ unknownFields32.getLsbD j = false) :
    (unknownAfterReset c).getLsbD j = false := by
  unfold unknownAfterReset
  split
  · exact h.1
  · exact h.2

/-- No bit outside the mask is set after a reset, so the rules read the stored value as it is. -/
theorem State.afterReset_mdcr (s : State) (cold : Bool) : (s.afterReset cold).mdcr = s.mdcrAfterReset cold := by
  rw [State.mdcr, State.afterReset_cfg, State.afterReset_ctl]
  change s.mdcrAfterReset cold &&& implMask s.cfg = _
  unfold State.mdcrAfterReset
  split
  · exact BitVec.zero_and
  · rw [BitVec.and_assoc, BitVec.and_self]

section Mdcr

variable {s : State} (h2 : s.cfg.haveEL2 = true) (cold : Bool)
include h2

/-- An implemented bit is a free value in an UNKNOWN field, MTPME, or a bit of HPMN; every other bit is 0. -/
theorem mdcrAfterReset_getLsbD (j : Nat) : (s.mdcrAfterReset cold).getLsbD j =
    (((s.free (.reset 0)).getLsbD j && (unknownAfterReset s.cfg).getLsbD j
      || (cold || s.ctl.mdcrEl2.getLsbD j) && decide (j = 28)
      || (s.cfg.pmcrN.setWidth 64).getLsbD j) && (implMask s.cfg).getLsbD j) := by
  have hmtpme : (0x10000000 : Word).getLsbD j = decide (j = 28) :=
    Bool.eq_iff_iff.mpr ((mtpmeBit_getLsbD j).trans decide_eq_true_iff.symm)
  simp only [State.mdcrAfterReset, unknownAfterReset, h2, Bool.not_true, Bool.false_eq_true, if_false,
    BitVec.getLsbD_and, BitVec.getLsbD_or]
  cases cold <;> simp only [Bool.false_eq_true, if_false, if_true, BitVec.getLsbD_and, hmtpme, Bool.false_or,
    Bool.true_or, Bool.true_and]

/-- MTPME is set by a Cold reset and kept by a Warm one, where it exists. -/
theorem mdcrAfterReset_mtpme : (s.mdcrAfterReset cold).getLsbD 28 =
    ((cold || s.ctl.mdcrEl2.getLsbD 28) && (implMask s.cfg).getLsbD 28) := by
  rw [mdcrAfterReset_getLsbD h2, unknownAfterReset_getLsbD ⟨rfl, rfl⟩, pmcrN_getLsbD_of_ge _ (by decide),
    Bool.and_false, Bool.false_or, Bool.or_false, decide_eq_true rfl, Bool.and_true]

/-- HPMN is PMCR_N, where the field exists. -/
theorem mdcrAfterReset_hpmn : (s.mdcrAfterReset cold).extractLsb' 0 5 = if s.cfg.havePMUv3 then s.cfg.pmcrN else 0 := by
  have hknown : ∀ i : Fin 5, unknownFields64.getLsbD i = false ∧ unknownFields32.getLsbD i = false := by decide
  refine BitVec.eq_of_getLsbD_eq fun i hi => ?_
  have hmask : (implMask s.cfg).getLsbD i = s.cfg.havePMUv3 := by
    rw [Bool.eq_iff_iff, implMask_getLsbD]
    grind
  have hfield : (s.mdcrAfterReset cold).getLsbD i = (s.cfg.pmcrN.getLsbD i && s.cfg.havePMUv3) := by
    rw [mdcrAfterReset_getLsbD h2, unknownAfterReset_getLsbD (hknown ⟨i, hi⟩), hmask,
      decide_eq_false (by omega : i ≠ 28), BitVec.getLsbD_setWidth, decide_eq_true (by omega : i < 64)]
    simp only [Bool.and_false, Bool.false_or, Bool.true_and]
  rw [BitVec.getLsbD_extractLsb', Nat.zero_add, hfield, decide_eq_true hi, Bool.true_and]
  cases s.cfg.havePMUv3
  · exact (Bool.and_false _).trans BitVec.getLsbD_zero.symm
  · exact Bool.and_true _

/-- A field other than MTPME and HPMN that is not UNKNOWN after the reset is read as 0. -/
theorem afterReset_mdcr_cleared {j : Nat} (hj : 5 ≤ j ∧ j ≠ 28) (hk : (unknownAfterReset s.cfg).getLsbD j = false) :
    (s.afterReset cold).mdcr.getLsbD j = false := by
  rw [State.afterReset_mdcr, mdcrAfterReset_getLsbD h2, hk, pmcrN_getLsbD_of_ge _ hj.1, decide_eq_false hj.2]
  simp only [Bool.and_false, Bool.or_self, Bool.false_and]

/-- HCCD and HPMD are 0 after every reset (70_reset_and_hazards.md R262, R267). -/
theorem afterReset_hccd_hpmd : (s.afterReset cold).hccd = false ∧ (s.afterReset cold).hpmd = false :=
  ⟨afterReset_mdcr_cleared h2 cold (by decide) (unknownAfterReset_getLsbD ⟨rfl, rfl⟩),
    afterReset_mdcr_cleared h2 cold (by decide) (unknownAfterReset_getLsbD ⟨rfl, rfl⟩)⟩

/-- The positions of TPMCR, TPM, TDE, TDA, TDOSA, TDRA, TTRF and HLP, which a reset into AArch32 clears
(70_reset_and_hazards.md R267). -/
theorem afterReset_mdcr_a32 (h32 : s.cfg.resetIntoAArch64 = false) :
    ∀ j ∈ [5, 6, 8, 9, 10, 11, 19, 26], (s.afterReset cold).mdcr.getLsbD j = false := by
  have hknown : ∀ j ∈ [5, 6, 8, 9, 10, 11, 19, 26], (5 ≤ j ∧ j ≠ 28) ∧ unknownFields32.getLsbD j = false := by
    decide
  intro j hj
  refine afterReset_mdcr_cleared h2 cold (hknown j hj).1 ?_
  rw [unknownAfterReset, h32]
  exact (hknown j hj).2

end Mdcr

/-- Settles O53, field by field from the bits of MDCR_EL2 after a reset. -/
theorem resetOfMdcr : Obligations.ResetOfMdcr := by
  unfold Obligations.ResetOfMdcr
  intro s rest cold hev h2
  let m : State := { s with events := rest }
  have hmtpme : (m.mdcrAfterReset cold).getLsbD 28 =
      ((cold || s.ctl.mdcrEl2.getLsbD 28) && (implMask s.cfg).getLsbD 28) := mdcrAfterReset_mtpme h2 cold
  obtain ⟨hhccd, hhpmd⟩ := afterReset_hccd_hpmd (s := m) h2 cold
  refine ⟨_, step_reset hev, fun hm h3 => hmtpme.trans ?_, fun hno => hmtpme.trans ?_,
    mdcrAfterReset_hpmn (s := m) h2 cold, hhccd, hhpmd, mdcrAfterReset_res0 m cold, fun h32 => ?_⟩
  · have hmask : (implMask s.cfg).getLsbD 28 = true := (implMask_getLsbD ..).mpr (.inl ⟨rfl, hm, h3⟩)
    rw [hmask, Bool.and_true]
    cases cold <;> rfl
  · have hmask : (implMask s.cfg).getLsbD 28 = false := by
      rw [Bool.eq_false_iff, ne_eq, implMask_getLsbD]
      grind
    rw [hmask, Bool.and_false]
  · have hzero := afterReset_mdcr_a32 (s := m) h2 cold h32
    exact ⟨hzero 26 (by decide), hzero 19 (by decide), hzero 11 (by decide), hzero 10 (by decide),
      hzero 9 (by decide), hzero 8 (by decide), hzero 6 (by decide), hzero 5 (by decide)⟩

/-! ### The rest of the machine after a reset (70_reset_and_hazards.md R268) -/

/-- PMCR_EL0.E is 0, and N is PMCR_N. -/
theorem pmuAfterReset_fields (s : State) :
    s.pmuAfterReset.pmcr.getLsbD 0 = false ∧ s.pmuAfterReset.pmcr.extractLsb' 11 5 = s.cfg.pmcrN := by
  refine ⟨(pmcrMerge_E ..).trans ?_, pmcrMerge_N ..⟩
  have hmask : (~~~1#64).getLsbD 0 = false := by decide
  rw [BitVec.getLsbD_and, hmask, Bool.and_false]

/-- The fine-grained trap registers are 0 where the PE resets into EL2. -/
theorem ctlAfterReset_fgt {s : State} (h3 : s.cfg.haveEL3 = false) (h2 : s.cfg.haveEL2 = true) (cold : Bool) :
    (s.ctlAfterReset cold).hdfgrtrEl2 = 0 ∧ (s.ctlAfterReset cold).hdfgwtrEl2 = 0 := by
  have hel : resetEL s.cfg = .el2 := by
    rw [resetEL, h3, h2]
    rfl
  exact ⟨if_pos hel, if_pos hel⟩

/-- OSLSR_EL1.OSLK is set by a Cold reset and kept by a Warm one. -/
theorem dbgAfterReset_oslk (s : State) (cold : Bool) :
    (s.dbgAfterReset cold).oslsr.getLsbD 1 = if cold then true else s.dbg.oslsr.getLsbD 1 := by
  cases cold with
  | false => rfl
  | true =>
    have hbit : (2 : Word).getLsbD 1 = true := by decide
    change (s.dbg.oslsr ||| 2).getLsbD 1 = true
    rw [BitVec.getLsbD_or, hbit, Bool.or_true]

/-- Settles O54: each part of the state after a reset, from its lemma. -/
theorem resetOfTheRest : Obligations.ResetOfTheRest := by
  unfold Obligations.ResetOfTheRest
  intro s rest cold hev
  let m : State := { s with events := rest }
  obtain ⟨hE, hN⟩ := pmuAfterReset_fields m
  exact ⟨_, step_reset hev, rfl, rfl, elA32_afterReset m cold, rfl, rfl, hE, hN,
    fun h3 h2 => ctlAfterReset_fgt (s := m) h3 h2 cold, dbgAfterReset_oslk m cold, m.afterReset_mem cold,
    m.afterReset_cfg cold⟩

/-! ### The invariant of the Cold-reset state -/

/-- HPMN and MTPME, the only bits that can be set, are set only where they are implemented. -/
theorem mdcrReset_res0 (c : Config) : mdcrReset c &&& ~~~implMask c = 0 := by
  refine BitVec.eq_of_getLsbD_eq fun j hj => ?_
  have himp : (mdcrReset c).getLsbD j = true → (implMask c).getLsbD j = true := by
    rw [mdcrReset, BitVec.getLsbD_or, Bool.or_eq_true, getLsbD_ite_zero, getLsbD_ite_zero, mtpmeBit_getLsbD,
      implMask_getLsbD]
    rintro (⟨hbit, hv3⟩ | ⟨rfl, hm⟩)
    · have hlow : j < 5 := by
        by_contra hge
        rw [pmcrN_getLsbD_of_ge _ (by omega)] at hbit
        cases hbit
      simp only [Bool.and_eq_true] at hv3
      simp only [hv3.1, and_true]
      omega
    · simp_all
  rw [BitVec.getLsbD_and, BitVec.getLsbD_not, decide_eq_true hj, Bool.true_and]
  cases hbit : (mdcrReset c).getLsbD j with
  | false => exact BitVec.getLsbD_zero.symm
  | true => rw [himp hbit]; exact BitVec.getLsbD_zero.symm

theorem State.storageInv_resetWith (c : Config) : (State.resetWith c).StorageInv where
  mem := rfl
  res0 _ := mdcrReset_res0 c
  pmcr := by
    have hfields : ∀ n : BitVec 5, (n.setWidth 64 <<< 11).extractLsb' 11 5 = n ∧
        (n.setWidth 64 <<< 11).extractLsb' 1 2 = 0#2 := by decide
    exact hfields c.pmcrN
  counters _ n hn := by
    have hzero : vget (State.resetWith c).pmu.evcntr n = 0 := by
      simp [State.resetWith, vget, hn]
    rw [hzero]
    exact BitVec.zero_and

theorem State.levelInv_resetWith (c : Config) : (State.resetWith c).LevelInv where
  level := by
    have hel : (State.resetWith c).ps.el = resetEL c := rfl
    rw [hel]
    rcases resetEL_cases c with ⟨he, h3⟩ | ⟨he, h3, h2⟩ | he <;>
      simp [State.resetWith, State.haveEL, State.el2Enabled, *]
  execState _ := by
    have hps : (State.resetWith c).ps = PState.reset (resetEL c) (!c.resetIntoAArch64) := rfl
    rw [hps]
    rcases resetEL_cases c with ⟨he, h3⟩ | ⟨he, h3, h2⟩ | he <;>
      simp [State.resetWith, PState.reset, State.elA32, State.el2A32, State.secureEL2, *]
  thumb _ := ⟨rfl, rfl⟩

/-- Settles O9: both parts of the invariant hold of the Cold-reset state of every configuration, K1 among them. -/
theorem resetMeetsInvariant : Obligations.ResetMeetsInvariant := by
  unfold Obligations.ResetMeetsInvariant
  have hinv (c : Config) : (State.resetWith c).Inv :=
    (State.inv_iff _).mpr ⟨State.storageInv_resetWith c, State.levelInv_resetWith c⟩
  exact ⟨hinv Config.k1, hinv⟩

end Sys2Proof.Machine
end

section
/-! SUPPORT. The frame of a step: no instruction, word or input changes the implementation parameters or the step
counter, and the tick at the end of the step adds one to the counter. -/

namespace Sys2Proof.Machine

/-- `t` is a state of the same implementation as `s` and draws the same free values (notes/assumptions 1 and 2). -/
structure State.SameDraws (s t : State) : Prop where
  cfg : t.cfg = s.cfg
  draws : t.draws = s.draws

theorem State.SameDraws.refl (s : State) : s.SameDraws s := ⟨rfl, rfl⟩

/-! ### The table and the words outside it, as far as they go on -/

theorem State.Entered.sameDraws {s t : State} {T : EL} (h : s.Entered T t) : s.SameDraws t where
  cfg := by rw [h.frame]
  draws := by rw [h.frame]

theorem State.Raises.sameDraws {s t : State} (h : s.Raises t) : s.SameDraws t := by
  obtain ⟨T, hent, -⟩ := h.entered
  exact hent.sameDraws

theorem exec_sameDraws {i : Instr} {s t : State} (ht : exec i s = .next t) : s.SameDraws t := by
  obtain ⟨u, hu, ho⟩ := exec_outcome i s
  cases hu.symm.trans ht
  rcases ho with hraise | rfl | ⟨u, rfl, ha⟩
  · exact hraise.sameDraws
  · exact ⟨rfl, rfl⟩
  · exact ⟨ha.cfg, ha.draws⟩

/-- A word that is not allocated moves on or is Undefined (30_encoding.md R68). -/
theorem runUnallocated_cases (w : Word32) (s : State) :
    runUnallocated w s = s.advance ∨ s.Raises (runUnallocated w s) := by
  unfold runUnallocated
  split
  · exact .inl rfl
  · exact .inr .undefined

/-- A register of TDOSA_extra_registers goes on by an exception only (41_debug_traps.md R103). -/
theorem runExtra_next {s t : State} {e : SysEnc} {x : XReg} {read : Bool} {w : Word32}
    (ht : runExtra e x read w s = .next t) : s.Raises t := by
  unfold runExtra at ht
  cases he : s.ps.el <;> simp only [he] at ht
  case el0 => cases ht; exact .undefined
  case el1 =>
    split at ht
    · next htrap =>
      cases ht
      have h2 := (a64EL2_spec (Bool.and_eq_true_iff.mp htrap).1).1
      exact .trap .el2 _ _ (.inr (.inl ⟨rfl, h2, .inr he⟩))
    · cases ht
  case el2 => cases ht
  case el3 => cases ht

/-- Such an AArch32 register also moves on where the condition check fails. -/
theorem runExtra32_next {s t : State} {e : CpEnc} {c : Cond} {x : RReg} {read : Bool} {w : Word32}
    (ht : runExtra32 e c x read w s = .next t) : t = s.advance ∨ s.Raises t := by
  unfold runExtra32 run32 at ht
  split at ht
  · cases ht
  cases ht
  have hd := extra32Chain_sound s
  rcases next32_cases c 0x05 (s.issMcr e c x read) (extra32Chain s) (fun _ => s) s s with
    ⟨-, k, -, h⟩ | ⟨-, -, h⟩ | h | ⟨-, h⟩ | ⟨T, hT, h⟩ | ⟨hT, h⟩ | ⟨hT, h⟩ | ⟨hT, h⟩ <;> rw [h]
  · exact .inl rfl
  · exact .inl rfl
  · exact .inl rfl
  · exact .inr .undefined
  · exact .inr (.trap T _ _ (hd.trap T hT))
  · exact .inr (.hyp _ (hd.hyp (.inl hT)).1 (hd.hyp (.inl hT)).2)
  · exact .inr (.hyp _ (hd.hyp (.inr hT)).1 (hd.hyp (.inr hT)).2)
  · exact .inr (.monitor (hd.monitor hT).1 (hd.monitor hT).2)

/-- An exception return that is performed returns from the current level (60_exceptions.md R242). -/
theorem exceptionReturn_next {s t : State} (ht : exceptionReturn s = .next t) : t = s.returnFrom s.ps.el := by
  unfold exceptionReturn at ht
  split at ht
  · cases ht
  split at ht
  · cases ht; rfl
  · cases ht

theorem exceptionReturn_sameDraws {s t : State} (ht : exceptionReturn s = .next t) : s.SameDraws t := by
  rw [exceptionReturn_next ht, State.returnFrom_eq]
  exact ⟨rfl, rfl⟩

/-- Everything a word outside the table can do: move on, write a register (MOVZ), raise an exception, return from one. -/
theorem runOther_next {s t : State} {w : Word32} (ht : runOther w s = .next t) :
    t = s.advance ∨ (∃ (r : XReg) (v : Word), t = (s.setX r v).advance) ∨ s.Raises t ∨ exceptionReturn s = .next t := by
  unfold runOther at ht
  split at ht
  · split at ht
    · cases ht; exact .inr (.inl ⟨_, _, rfl⟩)
    split at ht
    · cases ht; exact .inl rfl
    split at ht
    · exact .inr (.inr (.inr ht))
    split at ht
    · split at ht
      · exact .inr (.inr (.inl (runExtra_next ht)))
      · cases ht
    · cases ht
  · split at ht
    · split at ht
      · exact (runExtra32_next ht).imp_right fun h => .inr (.inl h)
      · cases ht
    · cases ht

theorem runUnallocated_sameDraws (w : Word32) (s : State) : s.SameDraws (runUnallocated w s) := by
  rcases runUnallocated_cases w s with h | h
  · rw [h]; exact ⟨rfl, rfl⟩
  · exact h.sameDraws

theorem runOther_sameDraws {s t : State} {w : Word32} (ht : runOther w s = .next t) : s.SameDraws t := by
  rcases runOther_next ht with rfl | ⟨r, v, rfl⟩ | h | h
  · exact ⟨rfl, rfl⟩
  · exact ⟨rfl, rfl⟩
  · exact h.sameDraws
  · exact exceptionReturn_sameDraws h

theorem stepInstr_sameDraws {s t : State} (ht : stepInstr s = .next t) : s.SameDraws t := by
  unfold stepInstr at ht
  split at ht
  · cases ht
  split at ht
  · exact exec_sameDraws ht
  · cases ht; exact runUnallocated_sameDraws _ s
  · exact runOther_sameDraws ht
  · cases ht

/-! ### The inputs -/

theorem State.countEvent_sameDraws (s : State) (n : Nat) (src : EventSource) : s.SameDraws (s.countEvent n src) := by
  rw [(countEvent_eq s n src).1]
  exact ⟨rfl, rfl⟩

theorem State.countCycle_sameDraws (s : State) : s.SameDraws s.countCycle := by
  unfold State.countCycle
  split
  · exact ⟨rfl, rfl⟩
  · exact .refl s

theorem handleEvent_sameDraws {s t : State} {e : Event} (ht : handleEvent e s = .next t) : s.SameDraws t := by
  cases e with
  | exceptionReturn => exact exceptionReturn_sameDraws ht
  | debugException d => cases ht; exact (s.take_entered _ _).sameDraws
  | warmReset => cases ht; exact ⟨s.afterReset_cfg _, s.afterReset_draws _⟩
  | coldReset => cases ht; exact ⟨s.afterReset_cfg _, s.afterReset_draws _⟩
  | counterEvent n src => cases ht; exact s.countEvent_sameDraws n src
  | cycle => cases ht; exact s.countCycle_sameDraws
  | setHalted b => cases ht; exact ⟨rfl, rfl⟩
  | setExternalDebug b => cases ht; exact ⟨rfl, rfl⟩
  | setSiblingMtpmu b => cases ht; exact ⟨rfl, rfl⟩

/-! ### The step -/

/-- A step is an input or an instruction of the same implementation and draws, and then the tick. -/
theorem step_next {s t : State} (ht : step s = .next t) : ∃ u, t = u.tick ∧ s.SameDraws u := by
  unfold step at ht
  split at ht <;> obtain ⟨u, hu, rfl⟩ := tickOutcome_next ht
  · obtain ⟨hcfg, hdraws⟩ := handleEvent_sameDraws hu
    exact ⟨u, rfl, hcfg, hdraws⟩
  · exact ⟨u, rfl, stepInstr_sameDraws hu⟩

/-- Settles O10: the input or the instruction keeps both fields, and only the tick counts. -/
theorem stepKeepsConfiguration : Obligations.StepKeepsConfiguration := by
  unfold Obligations.StepKeepsConfiguration
  intro s t ht
  obtain ⟨u, rfl, hcfg, hdraws⟩ := step_next ht
  exact ⟨hcfg, congrArg (· + 1) hdraws⟩

end Sys2Proof.Machine
end
